-- ==== Sys2Proof/Word.lean ====
section
/-! DEFINITION. The word types of the SLPC block and the two logical line levels (00_scope.md R8). -/

namespace Sys2Proof

/-- A register value: 32 bits (R6 "Register width", R8). -/
abbrev Word := BitVec 32

/-- One byte of TXBUF, RXBUF or the wire. -/
abbrev Byte := BitVec 8

/-- A logical line level (R8, R15): `A` asserted (a mark), `R` released (a delimiter or an idle line). -/
inductive Level where
  | asserted
  | released
  deriving DecidableEq, Repr, Inhabited

end Sys2Proof
end

