-- ==== Sys2Proof/Syntax.lean ====
section
/-! DEFINITION. The commands of the SLPC-1 command set: one constructor per row of spec/opcode_table.json
(30_encoding.md R60, R65). -/

namespace Sys2Proof

/-- The seven opcodes of rule R65. CUR_OP reads `nop` (0) when no command runs (R21). -/
inductive Op where
  | nop
  | waitIdle
  | txSync
  | txByte
  | txFrame
  | send
  | receive
  deriving DecidableEq, Repr, Inhabited

/-- A command word's meaning. Every row has the one format of rule R60, with the operand fields ARG and LEN. A command
that does not use a field still carries it, because acceptance latches both (R82: ARG_L, LEN_L; assumption log 10).
-/
inductive Instr where
  /-- NOP (R84). -/
  | nop (arg : BitVec 8) (len : BitVec 6)
  /-- WAIT_IDLE (R103). -/
  | waitIdle (arg : BitVec 8) (len : BitVec 6)
  /-- TX_SYNC (R122). -/
  | txSync (arg : BitVec 8) (len : BitVec 6)
  /-- TX_BYTE arg (R123). -/
  | txByte (arg : BitVec 8) (len : BitVec 6)
  /-- TX_FRAME len (R124). -/
  | txFrame (arg : BitVec 8) (len : BitVec 6)
  /-- SEND len (R140). -/
  | send (arg : BitVec 8) (len : BitVec 6)
  /-- RECEIVE len (R160). -/
  | receive (arg : BitVec 8) (len : BitVec 6)
  deriving DecidableEq, Repr

/-- The opcode of a command. -/
def Instr.op : Instr → Op
  | .nop _ _ => .nop
  | .waitIdle _ _ => .waitIdle
  | .txSync _ _ => .txSync
  | .txByte _ _ => .txByte
  | .txFrame _ _ => .txFrame
  | .send _ _ => .send
  | .receive _ _ => .receive

/-- The ARG field of a command. -/
def Instr.arg : Instr → BitVec 8
  | .nop a _ | .waitIdle a _ | .txSync a _ | .txByte a _ | .txFrame a _ | .send a _ | .receive a _ => a

/-- The LEN field of a command. -/
def Instr.len : Instr → BitVec 6
  | .nop _ n | .waitIdle _ n | .txSync _ n | .txByte _ n | .txFrame _ n | .send _ n | .receive _ n => n

end Sys2Proof
end

