-- ==== Sys2Proof/Decode.lean ====
section
/-! DEFINITION. The command word's fields, its decoder, its encoder and the legality of LEN (30_encoding.md R60–R67).
-/

namespace Sys2Proof

/-- `op = v[3:0]` (R61). -/
def cmdOp (v : Word) : BitVec 4 := v.extractLsb' 0 4

/-- `arg = v[15:8]` (R61). -/
def cmdArg (v : Word) : BitVec 8 := v.extractLsb' 8 8

/-- `len = v[21:16]` (R61). -/
def cmdLen (v : Word) : BitVec 6 := v.extractLsb' 16 6

/-- The OP code of an opcode (R65). -/
def opCode : Op → BitVec 4
  | .nop => 0x0#4
  | .waitIdle => 0x1#4
  | .txSync => 0x2#4
  | .txByte => 0x3#4
  | .txFrame => 0x4#4
  | .send => 0x5#4
  | .receive => 0x6#4

/-- Why a command word is no command. -/
inductive DecodeError where
  /-- A reserved opcode, 0x7 to 0xF (R66). -/
  | reservedOp (op : BitVec 4)
  deriving DecidableEq, Repr

/-- Read a command word (R60, R65, R66). Bits [7:4] and [31:22] are not looked at (R62). -/
def decodeWord (v : Word) : Except DecodeError Instr :=
  match cmdOp v with
  | 0x0#4 => .ok (.nop (cmdArg v) (cmdLen v))
  | 0x1#4 => .ok (.waitIdle (cmdArg v) (cmdLen v))
  | 0x2#4 => .ok (.txSync (cmdArg v) (cmdLen v))
  | 0x3#4 => .ok (.txByte (cmdArg v) (cmdLen v))
  | 0x4#4 => .ok (.txFrame (cmdArg v) (cmdLen v))
  | 0x5#4 => .ok (.send (cmdArg v) (cmdLen v))
  | 0x6#4 => .ok (.receive (cmdArg v) (cmdLen v))
  | op => .error (.reservedOp op)

/-- `legal_len(op, len)` (R67, R80). -/
def legalLen (op : Op) (len : BitVec 6) : Bool :=
  match op with
  | .txFrame => decide (1 ≤ len.toNat ∧ len.toNat ≤ 32)
  | .send => decide (2 ≤ len.toNat ∧ len.toNat ≤ 4)
  | .receive => decide (len.toNat ≤ 16)
  | .nop | .waitIdle | .txSync | .txByte => true

/-- The CMD word with these fields (R60): the reserved bits as given, each other field in its place. -/
def cmdWord (hi : BitVec 10) (len : BitVec 6) (arg : BitVec 8) (lo : BitVec 4) (op : BitVec 4) : Word :=
  hi ++ len ++ arg ++ lo ++ op

/-- The CMD word of a command, reserved bits 0 (R68). -/
def encode (i : Instr) : Word := cmdWord 0#10 i.len i.arg 0#4 (opCode i.op)

/-- The CMD word whose low `nbits` bits are those of `w`, the rest 0. -/
def tableWord (nbits w : Nat) : Word := BitVec.ofNat 32 (w % 2 ^ nbits)

/-- The command the decoder reads from a word numbered as spec/opcode_table.json numbers it. A command is one 32-bit
word, so there is no word order to choose (R60). -/
def decodeTableWord (nbits w : Nat) : Option Instr := (decodeWord (tableWord nbits w)).toOption

end Sys2Proof
end

