-- ==== Sys2Proof/Config.lean ====
section
/-! DEFINITION. What an implementation fixes (the OPEN parameters of 00_scope.md R6) and what the world outside the
block chooses (the port values of 10_state.md R10). The values are opaque: nothing in Lean can evaluate them, so a
theorem about them holds for every choice (assumption log 2, 4, 5). -/

namespace Sys2Proof.Config

/-- The OPEN parameters of rule R6, each with its constraint. The default of a field is only the example
configuration of decision D34 (for the four timing values) or an arbitrary legal value, used by tests: the
machine's own parameters are `Config.params`, which is opaque (assumption log 4). -/
structure Params where
  /-- WORD_GAP_US. -/
  wordGapUs : Nat := 50000
  /-- LINE_READY_US. -/
  lineReadyUs : Nat := 5000
  /-- IDLE_POLL_US. -/
  idlePollUs : Nat := 10
  /-- IDLE_TOTAL_US. -/
  idleTotalUs : Nat := 100000
  /-- CLK_HZ, an integer multiple of 1 MHz and at least 2 MHz: it is this number plus 2, in MHz. -/
  clkMHzAbove2 : Nat := 0
  /-- BASE, the bus address of the register window. -/
  base : Nat := 0
  /-- IN_ACTIVE_LEVEL: the `line_i` pin level that means asserted. -/
  inActiveLevel : Bool := true
  /-- OUT_ACTIVE_LEVEL: the `line_o` pin level that asserts the line. -/
  outActiveLevel : Bool := true
  wordGap_lt : wordGapUs < 2 ^ 32 := by decide
  lineReady_ge : 601 ≤ lineReadyUs := by decide
  lineReady_lt : lineReadyUs < 2 ^ 32 := by decide
  idlePoll_pos : 1 ≤ idlePollUs := by decide
  idlePoll_lt : idlePollUs < 2 ^ 32 := by decide
  idleTotal_pos : 1 ≤ idleTotalUs := by decide
  idleTotal_lt : idleTotalUs < 2 ^ 32 := by decide
  base_aligned : base % 512 = 0 := by decide
  deriving DecidableEq, Repr, Inhabited

/-- The input ports at one rising edge of `clk` (R10). -/
structure Pins where
  /-- `rst_n`: reset, active low (R11). -/
  rstN : Bool := true
  /-- `bus_sel`: a register access occurs at this edge (R41). -/
  busSel : Bool := false
  /-- `bus_we`: 1 = write, 0 = read (R41). -/
  busWe : Bool := false
  /-- `bus_addr`: byte offset from BASE (R42). -/
  busAddr : BitVec 9 := 0#9
  /-- `bus_wdata`. -/
  busWdata : Word := 0#32
  /-- `line_i`: the input pin (R13). -/
  lineI : Bool := false
  deriving DecidableEq, Repr, Inhabited

/-- The parameters this block was built with: any values within R6's constraints (assumption log 4). -/
opaque params : Params

/-- The port values at the edge numbered `n`, once `State.inputs` is used up: the host and the line environment
choose them under no law (R5, R14, I5; assumption log 2). -/
opaque pinsAt : Nat → Pins

/-- What `bus_rdata` carries at the edge numbered `n` when the access is a write: R41 states a value for a read and
for no access, none for a write (assumption log 5). -/
opaque rdataDuringWrite : Nat → Word

end Sys2Proof.Config
end

