-- ==== Sys2Proof/Machine/State.lean ====
section
/-! DEFINITION. The state of the SLPC block: every field of 10_state.md R15, R21–R23, R26–R28 and R30, and its reset
value (70_reset_and_hazards.md R220). -/

namespace Sys2Proof.Machine

/-- STATUS.PHASE (R21): NONE 0, IDLE 1, TX 2, PAD 3, RX 4. Codes 5–7 never occur (I12). -/
inductive Phase where
  | none
  | idle
  | tx
  | pad
  | rx
  deriving DecidableEq, Repr, Inhabited

/-- RXSTAT.RX_STATE (R22): WaitSync 0, Accumulate 1, Done 2. Code 3 never occurs (I12). -/
inductive RxState where
  | waitSync
  | accumulate
  | done
  deriving DecidableEq, Repr, Inhabited

/-- RX_SUB, the pulse-measurement sub-state (R30, R162). -/
inductive RxSub where
  | waitLow
  | waitEdge
  | inPulse
  deriving DecidableEq, Repr, Inhabited

/-- A class of pulse width as RXPULSE.LAST_CLASS codes it (R26): NONE 0, SYNC 1, ONE 2, ZERO 3, NOISE 4. -/
inductive PulseClass where
  | none
  | sync
  | one
  | zero
  | noise
  deriving DecidableEq, Repr, Inhabited

/-- A segment of a transmit waveform (R120): `ticks` ticks at one level. -/
structure Segment where
  level : Level
  ticks : Nat
  deriving DecidableEq, Repr, Inhabited

/-- The block's state. Field names are the spec's; `inputs` and `edge` are the model's own. -/
structure State where
  /-- STATUS.BUSY (R21). -/
  busy : Bool
  /-- STATUS.LINE (R21). -/
  line : Bool
  /-- STATUS.CUR_OP (R21). -/
  curOp : Op
  /-- STATUS.DONE (R21). -/
  done : Bool
  /-- STATUS.RX_TIMEOUT (R21). -/
  rxTimeout : Bool
  /-- STATUS.IDLE_TIMEOUT (R21). -/
  idleTimeout : Bool
  /-- STATUS.PAD_EARLY (R21). -/
  padEarly : Bool
  /-- STATUS.PHASE (R21). -/
  phase : Phase
  /-- STATUS.ERR_BUSY (R21, R201). -/
  errBusy : Bool
  /-- STATUS.ERR_OP (R21, R202). -/
  errOp : Bool
  /-- STATUS.ERR_LEN (R21, R203). -/
  errLen : Bool
  /-- RXSTAT.RX_COUNT (R22). -/
  rxCount : BitVec 5
  /-- RXSTAT.RX_STATE (R22). -/
  rxState : RxState
  /-- RXSTAT.RX_BITIDX (R22). -/
  rxBitIdx : BitVec 3
  /-- RXSTAT.RX_ACC (R22). -/
  rxAcc : Byte
  /-- IDLE_CNT (R23, R100). -/
  idleCnt : BitVec 32
  /-- RXPULSE.LAST_WIDTH (R26). -/
  lastWidth : BitVec 16
  /-- RXPULSE.LAST_CLASS (R26). -/
  lastClass : PulseClass
  /-- TXBUF (R27). -/
  txbuf : Vector Byte 32
  /-- RXBUF (R28). -/
  rxbuf : Vector Byte 16
  /-- PRESC (R12, R30). -/
  presc : Nat
  /-- SYNC1, a pin level (R13, R30). -/
  sync1 : Bool
  /-- SYNC2, a pin level (R13, R30). -/
  sync2 : Bool
  /-- DRIVE (R15, R30). -/
  drive : Level
  /-- ARG_L (R30). -/
  argL : BitVec 8
  /-- LEN_L (R30). -/
  lenL : BitVec 6
  /-- PHASES, the remaining phases of the running command (R30, R83). -/
  phases : List Phase
  /-- k (R30). -/
  k : Nat
  /-- TX_POS (R30). -/
  txPos : Nat
  /-- TX_WAVE (R30), as its list of segments (assumption log 8). -/
  txWave : List Segment
  /-- E (R30, R141). -/
  e : Nat
  /-- RX_SUB (R30). -/
  rxSub : RxSub
  /-- RX_WIDTH (R30). -/
  rxWidth : Nat
  /-- RX_W (R30, R163). -/
  rxW : Nat
  /-- RX_E (R30, R167). -/
  rxE : Nat
  /-- RX_LEN (R30). -/
  rxLen : BitVec 5
  /-- The model's own: the port values of the coming edges, the next one first (assumption log 2). -/
  inputs : List Config.Pins
  /-- The model's own: how many edges have passed (assumption log 2). -/
  edge : Nat
  deriving DecidableEq, Repr

/-- Why a step could fault. There is no reason: "There is no hung, faulted or stuck state" (R207; assumption log 15).
-/
inductive Fault where
  deriving DecidableEq, Repr

/-- Why a step could refuse a command. -/
inductive Refusal where
  /-- Raised by an arm of `exec` whose command has no meaning yet. No arm raises it. Safe. -/
  | notModelled (mnemonic : String)
  deriving DecidableEq, Repr

/-- The reset value of every piece of state (R220), for a block with the parameters `P`. The synchroniser resets to
the released pin level (R13). -/
def State.resetWith (P : Config.Params) : State where
  busy := false
  line := false
  curOp := .nop
  done := false
  rxTimeout := false
  idleTimeout := false
  padEarly := false
  phase := .none
  errBusy := false
  errOp := false
  errLen := false
  rxCount := 0#5
  rxState := .waitSync
  rxBitIdx := 0#3
  rxAcc := 0x00#8
  idleCnt := 0#32
  lastWidth := 0#16
  lastClass := .none
  txbuf := Vector.replicate 32 0x00#8
  rxbuf := Vector.replicate 16 0x00#8
  presc := 0
  sync1 := !P.inActiveLevel
  sync2 := !P.inActiveLevel
  drive := .released
  argL := 0#8
  lenL := 0#6
  phases := []
  k := 0
  txPos := 0
  txWave := []
  e := 0
  rxSub := .waitLow
  rxWidth := 0
  rxW := 0
  rxE := 0
  rxLen := 0#5
  inputs := []
  edge := 0

/-- The block right after reset (R220). -/
def State.reset : State := State.resetWith Config.params

end Sys2Proof.Machine
end

