-- ==== Sys2Proof/Machine/Profile.lean ====
section
/-! DEFINITION. The fixed timing profile (00_scope.md R6), the tolerance windows (R25, R161), TICK_DIV (R12), and the
register window's place on the platform's bus (R40, R51). -/

namespace Sys2Proof.Machine

/-- SYNC_MARK_US (R6). -/
def syncMarkUs : Nat := 2400

/-- ONE_MARK_US (R6). -/
def oneMarkUs : Nat := 1200

/-- ZERO_MARK_US (R6). -/
def zeroMarkUs : Nat := 600

/-- DELIM_US (R6). -/
def delimUs : Nat := 600

/-- RX_PULSE_TIMEOUT_US (R6, R163). -/
def rxPulseTimeoutUs : Nat := 55000

/-- RX_TIMEOUT_US (R6, R167). -/
def rxTimeoutUs : Nat := 60000

/-- `lo(m) = ⌈5m/6⌉`, the lower inclusive bound of the window of a mark (R161; TOLERANCE = 6/5, R6). -/
def windowLo (m : Nat) : Nat := (5 * m + 5) / 6

/-- `hi(m) = ⌊6m/5⌋`, the upper inclusive bound of the window of a mark (R161). -/
def windowHi (m : Nat) : Nat := 6 * m / 5

/-- CLK_HZ (R6). -/
def clkHz (P : Config.Params) : Nat := (P.clkMHzAbove2 + 2) * 1000000

/-- TICK_DIV = CLK_HZ / 1 000 000 (R6, R12; `tickDiv_eq_clkHz_div` says so). -/
def tickDiv (P : Config.Params) : Nat := P.clkMHzAbove2 + 2

/-- `sat32(v) = min(v, 2^32 − 1)` (R8). -/
def sat32 (v : Nat) : BitVec 32 := BitVec.ofNat 32 (min v (2 ^ 32 - 1))

/-- The byte offset that `bus_addr` shows for a bus address inside the window BASE .. BASE + 0x1FF. Addresses outside
it are not decoded by the block (R40, R51; assumption log 18). -/
def windowOffset? (P : Config.Params) (busAddress : Nat) : Option (BitVec 9) :=
  if P.base ≤ busAddress ∧ busAddress < P.base + 512 then some (BitVec.ofNat 9 (busAddress - P.base)) else none

end Sys2Proof.Machine
end

