-- ==== Sys2Proof/Machine/Operands.lean ====
section
/-! DEFINITION. What a command works on: its phase list (40_command_interface.md R83), the bytes it sends, and its
transmit waveform (42_bit_encoder.md R120). -/

namespace Sys2Proof.Machine

/-- `phase_list(op)` (R83). NOP runs no phase (R84). -/
def phaseList : Op → List Phase
  | .nop => []
  | .waitIdle => [.idle]
  | .txSync => [.tx]
  | .txByte => [.tx]
  | .txFrame => [.tx]
  | .send => [.idle, .tx, .pad]
  | .receive => [.rx]

/-- TXBUF[0], …, TXBUF[len−1], in index order (R45, R120). -/
def frameBytes (len : BitVec 6) (txbuf : Vector Byte 32) : List Byte := txbuf.toList.take len.toNat

/-- SYNC_SEGS (R120). -/
def syncSegs : List Segment := [⟨.asserted, syncMarkUs⟩, ⟨.released, delimUs⟩]

/-- BIT_SEGS(b) (R120). -/
def bitSegs (b : Bool) : List Segment :=
  [⟨.asserted, if b then oneMarkUs else zeroMarkUs⟩, ⟨.released, delimUs⟩]

/-- BYTE_SEGS(x): the eight bits, most significant first (R45, R120). -/
def byteSegs (x : Byte) : List Segment :=
  bitSegs (x.getLsbD 7) ++ bitSegs (x.getLsbD 6) ++ bitSegs (x.getLsbD 5) ++ bitSegs (x.getLsbD 4) ++
    bitSegs (x.getLsbD 3) ++ bitSegs (x.getLsbD 2) ++ bitSegs (x.getLsbD 1) ++ bitSegs (x.getLsbD 0)

/-- The segments of a frame: the sync, then each byte, with no extra gap (R120). -/
def frameSegs (bytes : List Byte) : List Segment := syncSegs ++ bytes.flatMap byteSegs

/-- The segments of `wave(op, arg, len, TXBUF)` (R120). The commands without a TX phase have none. -/
def waveSegs (op : Op) (arg : Byte) (len : BitVec 6) (txbuf : Vector Byte 32) : List Segment :=
  match op with
  | .txSync => syncSegs
  | .txByte => byteSegs arg
  | .txFrame => frameSegs (frameBytes len txbuf)
  | .send => frameSegs (frameBytes len txbuf)
  | .nop | .waitIdle | .receive => []

/-- `flatten(segs)`: the waveform as a list of levels, one for each tick (R120). -/
def flatten (segs : List Segment) : List Level := segs.flatMap fun g => List.replicate g.ticks g.level

/-- `length(flatten(segs))`, without building the list. -/
def waveLength : List Segment → Nat
  | [] => 0
  | g :: gs => g.ticks + waveLength gs

/-- `flatten(segs)[pos]`, without building the list. Past the end, which no TX phase reaches, the level is R
(assumption log 9). -/
def levelAt : List Segment → Nat → Level
  | [], _ => .released
  | g :: gs, pos => if pos < g.ticks then g.level else levelAt gs (pos - g.ticks)

end Sys2Proof.Machine
end

