-- ==== Sys2Proof/Machine/Flags.lean ====
section
/-! DEFINITION. The flags and status words as a host reads them (10_state.md R21, R22, R25, R26, R31;
40_command_interface.md R90). -/

namespace Sys2Proof.Machine

/-- The line is idle: IDLE_CNT ≥ LINE_READY_US (R101). STATUS.LINE_IDLE shows it live (R21). -/
def lineIdle (P : Config.Params) (s : State) : Bool := decide (P.lineReadyUs ≤ s.idleCnt.toNat)

/-- The PHASE code (R21). -/
def phaseCode : Phase → BitVec 3
  | .none => 0#3
  | .idle => 1#3
  | .tx => 2#3
  | .pad => 3#3
  | .rx => 4#3

/-- The RX_STATE code (R22). -/
def rxStateCode : RxState → BitVec 2
  | .waitSync => 0#2
  | .accumulate => 1#2
  | .done => 2#2

/-- The LAST_CLASS code (R26). -/
def pulseClassCode : PulseClass → BitVec 3
  | .none => 0#3
  | .sync => 1#3
  | .one => 2#3
  | .zero => 3#3
  | .noise => 4#3

/-- One bit of a register. -/
def bit (b : Bool) : BitVec 1 := BitVec.ofBool b

/-- STATUS as a word (R21, R90). -/
def statusWord (P : Config.Params) (s : State) : Word :=
  0#13 ++ bit s.errLen ++ bit s.errOp ++ bit s.errBusy ++ 0#1 ++ phaseCode s.phase ++ bit s.padEarly ++
    bit s.idleTimeout ++ bit s.rxTimeout ++ bit s.done ++ opCode s.curOp ++ 0#1 ++ bit (lineIdle P s) ++
    bit s.line ++ bit s.busy

/-- RXSTAT as a word (R22, R90). -/
def rxstatWord (s : State) : Word :=
  0#8 ++ s.rxAcc ++ 0#1 ++ s.rxBitIdx ++ 0#2 ++ rxStateCode s.rxState ++ 0#3 ++ s.rxCount

/-- RXPULSE as a word (R26, R90). -/
def rxpulseWord (s : State) : Word := 0#13 ++ pulseClassCode s.lastClass ++ s.lastWidth

/-- A window register: `hi` in [31:16], `lo` in [15:0] (R25). -/
def windowWord (m : Nat) : Word := BitVec.ofNat 16 (windowHi m) ++ BitVec.ofNat 16 (windowLo m)

end Sys2Proof.Machine
end

