-- ==== Sys2Proof/Machine/Ops.lean ====
section
/-! DEFINITION. The operations every command shares: refusing a host write, clearing the error flags, acceptance, and
the phase sequencer (40_command_interface.md R80–R88, 60_exceptions.md R200–R210). -/

namespace Sys2Proof.Machine

/-- The three error conditions (R200). -/
inductive ErrorCond where
  | busy
  | op
  | len
  deriving DecidableEq, Repr

/-- A refused host write, the block's only analogue of an exception (R209): it is dropped, and its whole effect is one
sticky flag (R200–R203, R205). -/
def raiseError (c : ErrorCond) (s : State) : State :=
  match c with
  | .busy => { s with errBusy := true }
  | .op => { s with errOp := true }
  | .len => { s with errLen := true }

/-- `RegWrite(0x004, v)`: write 1 to clear, the only way back from a refused write but reset (R88, R210). -/
def clearErrors (v : Word) (s : State) : State :=
  { s with
    errBusy := s.errBusy && !v.getLsbD 16
    errOp := s.errOp && !v.getLsbD 17
    errLen := s.errLen && !v.getLsbD 18 }

/-- `start_phase(p)` (R85). It performs no step: the phase's first step is the next tick. -/
def startPhase (p : Phase) (s : State) : State :=
  match p with
  | .tx =>
    { s with
      phase := .tx, k := 0
      txWave := waveSegs s.curOp s.argL s.lenL s.txbuf, txPos := 0, e := 0 }
  | .none | .idle | .pad | .rx => { s with phase := p, k := 0 }

/-- `finish()` (R87). -/
def finish (s : State) : State :=
  { s with busy := false, curOp := .nop, phase := .none, done := true, phases := [] }

/-- Begin the first of the remaining phases, or finish when none remains (R86). -/
def nextPhase (s : State) : State :=
  match s.phases with
  | [] => finish s
  | p :: _ => startPhase p s

/-- `complete_phase()` (R86). -/
def completePhase (s : State) : State := nextPhase { s with phases := s.phases.tail }

/-- The receive state that acceptance of RECEIVE `len` sets up (R82, R160). -/
def clearReceiver (len : BitVec 6) (s : State) : State :=
  { s with
    rxbuf := Vector.replicate 16 0x00#8
    rxCount := 0#5, rxBitIdx := 0#3, rxAcc := 0x00#8
    rxState := if len = 0#6 then .done else .waitSync
    rxLen := len.setWidth 5
    rxSub := .waitLow, rxWidth := 0, rxW := 0, rxE := 0
    lastWidth := 0#16, lastClass := .none }

/-- What acceptance sets for every command (R82): the flags, the latched operands and the phase list. -/
def latchCommand (op : Op) (arg : BitVec 8) (len : BitVec 6) (s : State) : State :=
  { s with
    busy := true, curOp := op
    done := false, rxTimeout := false, idleTimeout := false, padEarly := false
    argL := arg, lenL := len
    phases := phaseList op }

/-- `accept(op, arg, len)` (R82). -/
def accept (op : Op) (arg : BitVec 8) (len : BitVec 6) (s : State) : State :=
  nextPhase (if op = .receive then clearReceiver len (latchCommand op arg len s) else latchCommand op arg len s)

/-- A CMD write of a command other than NOP (R80, R204): dropped with ERR_BUSY while a command runs, else dropped with
ERR_LEN when LEN is illegal, else accepted. -/
def submit (op : Op) (arg : BitVec 8) (len : BitVec 6) (s : State) : State :=
  if s.busy then raiseError .busy s
  else if legalLen op len then accept op arg len s
  else raiseError .len s

/-- A CMD write of a reserved opcode (R66, R80, R204). -/
def submitReserved (s : State) : State :=
  if s.busy then raiseError .busy s else raiseError .op s

end Sys2Proof.Machine
end

