-- ==== Sys2Proof/Machine/Control.lean ====
section
/-! DEFINITION. The command that starts nothing (40_command_interface.md R84). -/

namespace Sys2Proof.Machine

/-- NOP: no effect at all, whatever ARG, LEN and the reserved bits, and even while a command runs (R80, R84). -/
def execNop (s : State) : Host.Outcome State Fault Refusal := .next s

end Sys2Proof.Machine
end

