-- ==== Sys2Proof/Machine/Transmitter.lean ====
section
/-! DEFINITION. The command transmitter: SEND, the padding checkpoints and the PAD phase (43_command_transmitter.md).
-/

namespace Sys2Proof.Machine

/-- `send_tx_end(L)`, the first padding checkpoint, in SEND's last TX tick (R142). The elapsed test comes first. -/
def sendTxEnd (P : Config.Params) (L : Level) (s : State) : State :=
  if P.wordGapUs ≤ s.e then finish s
  else if L = .asserted then finish { s with padEarly := true }
  else completePhase s

/-- `pad_step(L)` (R143): the line is tested only at checkpoints. -/
def padStep (P : Config.Params) (L : Level) (s : State) : State :=
  let s1 := { s with k := s.k + 1, e := s.e + 1 }
  if s1.k % P.idlePollUs = 0 then
    if P.wordGapUs ≤ s1.e then completePhase s1
    else if L = .asserted then completePhase { s1 with padEarly := true }
    else s1
  else s1

/-- SEND (R140): a write of the command; its IDLE, TX and PAD phases run in the ticks that follow. -/
def execSend (arg : BitVec 8) (len : BitVec 6) (s : State) : Host.Outcome State Fault Refusal :=
  .next (submit .send arg len s)

end Sys2Proof.Machine
end

