-- ==== Sys2Proof/Machine/Encoder.lean ====
section
/-! DEFINITION. The bit encoder: the TX phase, TX_SYNC, TX_BYTE and TX_FRAME (42_bit_encoder.md). -/

namespace Sys2Proof.Machine

/-- `d` of `tx_step`: the level a TX tick drives, before TX_POS moves on (R121). -/
def txLevel (s : State) : Level := levelAt s.txWave s.txPos

/-- `tx_step(L)` but for the level it returns (R121). -/
def txStep (P : Config.Params) (L : Level) (s : State) : State :=
  let s1 := { s with txPos := s.txPos + 1, e := s.e + 1 }
  if s1.txPos = waveLength s1.txWave then
    if s1.curOp = .send then sendTxEnd P L s1 else completePhase s1
  else s1

/-- TX_SYNC (R122): a write of the command; its TX phase runs in the ticks that follow. -/
def execTxSync (arg : BitVec 8) (len : BitVec 6) (s : State) : Host.Outcome State Fault Refusal :=
  .next (submit .txSync arg len s)

/-- TX_BYTE (R123): a write of the command; its TX phase sends ARG in the ticks that follow. -/
def execTxByte (arg : BitVec 8) (len : BitVec 6) (s : State) : Host.Outcome State Fault Refusal :=
  .next (submit .txByte arg len s)

/-- TX_FRAME (R124): a write of the command; its TX phase sends a sync and TXBUF[0..LEN−1] in the ticks that follow.
-/
def execTxFrame (arg : BitVec 8) (len : BitVec 6) (s : State) : Host.Outcome State Fault Refusal :=
  .next (submit .txFrame arg len s)

end Sys2Proof.Machine
end

