-- ==== Sys2Proof/Machine/Monitor.lean ====
section
/-! DEFINITION. The line-idle monitor, the IDLE phase and WAIT_IDLE (41_line_monitor.md). -/

namespace Sys2Proof.Machine

/-- The first updates of a tick: STATUS.LINE and IDLE_CNT, whether or not a command runs (R16, R100). -/
def monitorLine (L : Level) (s : State) : State :=
  match L with
  | .asserted => { s with line := true, idleCnt := 0#32 }
  | .released => { s with line := false, idleCnt := sat32 (s.idleCnt.toNat + 1) }

/-- `idle_step(L)` (R102). The idle test comes before the total-timeout test. -/
def idleStep (P : Config.Params) (s : State) : State :=
  let s1 := { s with k := s.k + 1 }
  if s.k % P.idlePollUs = 0 then
    if lineIdle P s1 then completePhase s1
    else if P.idleTotalUs ≤ s1.k then completePhase { s1 with idleTimeout := true }
    else s1
  else s1

/-- WAIT_IDLE (R103): a write of the command; its IDLE phase runs in the ticks that follow. -/
def execWaitIdle (arg : BitVec 8) (len : BitVec 6) (s : State) : Host.Outcome State Fault Refusal :=
  .next (submit .waitIdle arg len s)

end Sys2Proof.Machine
end

