-- ==== Sys2Proof/Machine/Receiver.lean ====
section
/-! DEFINITION. The frame receiver: the classifier, the pulse measurement, the byte assembler, the RX phase and
RECEIVE (44_frame_receiver.md). -/

namespace Sys2Proof.Machine

/-- A width lies in the tolerance window of the mark `m`, both bounds included (R161). -/
def inWindow (m w : Nat) : Bool := decide (windowLo m ≤ w ∧ w ≤ windowHi m)

/-- `classify(w)` (R161). -/
def classify (w : Nat) : PulseClass :=
  if inWindow syncMarkUs w then .sync
  else if inWindow oneMarkUs w then .one
  else if inWindow zeroMarkUs w then .zero
  else .noise

/-- The width that `measure(L)` returns: that of a pulse which completes at this tick (R162). -/
def pulseWidth (L : Level) (s : State) : Option Nat :=
  match s.rxSub, L with
  | .inPulse, .released => some s.rxWidth
  | _, _ => none

/-- What `measure(L)` does to the state (R162). -/
def measurePulse (L : Level) (s : State) : State :=
  match s.rxSub, L with
  | .waitLow, .released => { s with rxSub := .waitEdge }
  | .waitLow, .asserted => s
  | .waitEdge, .asserted => { s with rxSub := .inPulse, rxWidth := 1 }
  | .waitEdge, .released => s
  | .inPulse, .asserted => { s with rxWidth := s.rxWidth + 1 }
  | .inPulse, .released => { s with rxSub := .waitEdge, rxW := 0 }

/-- `window_timeout(L)` (R163): a pulse in progress is abandoned, and nothing is delivered. -/
def windowTimeout (L : Level) (s : State) : State :=
  match L with
  | .asserted => { s with rxSub := .waitLow, rxW := 0 }
  | .released => { s with rxSub := .waitEdge, rxW := 0 }

/-- RXPULSE records each delivered pulse (R169). -/
def recordPulse (w : Nat) (s : State) : State :=
  { s with lastWidth := BitVec.ofNat 16 w, lastClass := classify w }

/-- Delivery in WaitSync: only a SYNC-class width has an effect (R164). -/
def deliverWaitSync (w : Nat) (s : State) : State :=
  if classify w = .sync then { s with rxState := .accumulate, rxBitIdx := 0#3, rxAcc := 0x00#8 } else s

/-- `RX_ACC[7 − i] <- b` (R165). -/
def setAccBit (acc : Byte) (i : Nat) (b : Bool) : Byte :=
  let mask : Byte := 1#8 <<< (7 - i)
  if b then acc ||| mask else acc &&& ~~~mask

/-- `byte_check()` with RX_BITIDX = 8: the byte is appended, and a full buffer is Done (R166). -/
def appendByte (x : Byte) (s : State) : State :=
  { s with
    rxbuf := s.rxbuf.setIfInBounds s.rxCount.toNat x
    rxCount := s.rxCount + 1#5
    rxBitIdx := 0#3, rxAcc := 0x00#8
    rxState := if s.rxCount + 1#5 = s.rxLen then .done else s.rxState }

/-- Delivery in Accumulate: a ONE-class width is the bit 1, every other width the bit 0; the eighth bit completes the
byte (R165, R166). -/
def deliverAccumulate (w : Nat) (s : State) : State :=
  let acc := setAccBit s.rxAcc s.rxBitIdx.toNat (classify w = .one)
  if s.rxBitIdx.toNat + 1 = 8 then appendByte acc s
  else { s with rxAcc := acc, rxBitIdx := s.rxBitIdx + 1#3 }

/-- A completed pulse goes to RXPULSE and to the state machine (R168). -/
def deliverPulse (w : Nat) (s : State) : State :=
  match s.rxState with
  | .waitSync => deliverWaitSync w (recordPulse w s)
  | .accumulate => deliverAccumulate w (recordPulse w s)
  | .done => recordPulse w s

/-- How an RX tick ends: Done first, then the overall timeout (R167). -/
def rxEnd (s : State) : State :=
  if s.rxState = .done then finish s
  else if rxTimeoutUs ≤ s.rxE then finish { s with rxTimeout := true }
  else s

/-- `rx_step(L)` up to the test for its end (R168): measure, then deliver a completed pulse or time the window out. -/
def rxMeasure (L : Level) (s : State) : State :=
  let s1 := { s with rxE := s.rxE + 1, rxW := s.rxW + 1 }
  let s2 := measurePulse L s1
  match pulseWidth L s1 with
  | some w => deliverPulse w s2
  | none => if rxPulseTimeoutUs ≤ s2.rxW then windowTimeout L s2 else s2

/-- `rx_step(L)` (R168). -/
def rxStep (L : Level) (s : State) : State := rxEnd (rxMeasure L s)

/-- RECEIVE (R160): a write of the command; its RX phase runs in the ticks that follow. -/
def execReceive (arg : BitVec 8) (len : BitVec 6) (s : State) : Host.Outcome State Fault Refusal :=
  .next (submit .receive arg len s)

end Sys2Proof.Machine
end

