-- ==== Sys2Proof/Machine/Dispatch.lean ====
section
/-! DEFINITION. One arm per command: the effect of its CMD write (40_command_interface.md R80). -/

namespace Sys2Proof.Machine

def exec (i : Instr) (s : State) : Host.Outcome State Fault Refusal :=
  match i with
  | .nop _ _ => Sys2Proof.Machine.execNop s
  | .waitIdle arg len => Sys2Proof.Machine.execWaitIdle arg len s
  | .txSync arg len => Sys2Proof.Machine.execTxSync arg len s
  | .txByte arg len => Sys2Proof.Machine.execTxByte arg len s
  | .txFrame arg len => Sys2Proof.Machine.execTxFrame arg len s
  | .send arg len => Sys2Proof.Machine.execSend arg len s
  | .receive arg len => Sys2Proof.Machine.execReceive arg len s

end Sys2Proof.Machine
end

