-- ==== Sys2Proof/Machine/Registers.lean ====
section
/-! DEFINITION. The register window: which register an address names (10_state.md R19, 20_memory.md R42), what a read
returns (40_command_interface.md R90) and what a write does to a register other than CMD (R29, R88, R89). -/

namespace Sys2Proof.Machine

/-- The registers of rule R19. -/
inductive Reg where
  | cmd
  | status
  | rxstat
  | idlecnt
  | syncMark
  | oneMark
  | zeroMark
  | delim
  | wordGap
  | lineReady
  | idlePoll
  | idleTotal
  | rxPulseTimeout
  | rxTimeout
  | syncWin
  | oneWin
  | zeroWin
  | rxpulse
  | txbuf (i : Fin 32)
  | rxbuf (i : Fin 16)
  | reserved
  deriving DecidableEq, Repr

/-- The register at a word offset that holds no buffer byte: `n` is the offset divided by 4 (R19). -/
def fixedReg (n : Nat) : Reg :=
  match n with
  | 0 => .cmd
  | 1 => .status
  | 2 => .rxstat
  | 3 => .idlecnt
  | 4 => .syncMark
  | 5 => .oneMark
  | 6 => .zeroMark
  | 7 => .delim
  | 8 => .wordGap
  | 9 => .lineReady
  | 10 => .idlePoll
  | 11 => .idleTotal
  | 12 => .rxPulseTimeout
  | 13 => .rxTimeout
  | 14 => .syncWin
  | 15 => .oneWin
  | 16 => .zeroWin
  | 18 => .rxpulse
  | _ => .reserved

/-- The register an access at `addr` reaches: `off = {addr[8:2], 2'b00}`, so bits [1:0] are ignored (R42). TXBUF is at
words 64..95 and RXBUF at words 96..111 (R19). -/
def regOf (addr : BitVec 9) : Reg :=
  let n := addr.toNat / 4
  if h : 64 ≤ n ∧ n < 96 then .txbuf ⟨n - 64, by omega⟩
  else if h : 96 ≤ n ∧ n < 112 then .rxbuf ⟨n - 96, by omega⟩
  else fixedReg n

/-- A 32-bit unsigned register value (R24). -/
def word32 (v : Nat) : Word := BitVec.ofNat 32 v

/-- `RegRead(off)` (R90). It has no effect on the state (R43). -/
def regRead (P : Config.Params) (r : Reg) (s : State) : Word :=
  match r with
  | .cmd => 0x00000000#32
  | .status => statusWord P s
  | .rxstat => rxstatWord s
  | .idlecnt => s.idleCnt
  | .syncMark => word32 syncMarkUs
  | .oneMark => word32 oneMarkUs
  | .zeroMark => word32 zeroMarkUs
  | .delim => word32 delimUs
  | .wordGap => word32 P.wordGapUs
  | .lineReady => word32 P.lineReadyUs
  | .idlePoll => word32 P.idlePollUs
  | .idleTotal => word32 P.idleTotalUs
  | .rxPulseTimeout => word32 rxPulseTimeoutUs
  | .rxTimeout => word32 rxTimeoutUs
  | .syncWin => windowWord syncMarkUs
  | .oneWin => windowWord oneMarkUs
  | .zeroWin => windowWord zeroMarkUs
  | .rxpulse => rxpulseWord s
  | .txbuf i => s.txbuf[i].setWidth 32
  | .rxbuf i => s.rxbuf[i].setWidth 32
  | .reserved => 0x00000000#32

/-- A frame from TXBUF is running, so TXBUF is locked (R89). -/
def txbufLocked (s : State) : Bool := s.busy && (s.curOp == .txFrame || s.curOp == .send)

/-- `RegWrite(0x100 + 4·i, v)` (R89): dropped with ERR_BUSY while TX_FRAME or SEND runs. -/
def writeTxbuf (i : Fin 32) (v : Word) (s : State) : State :=
  if txbufLocked s then raiseError .busy s else { s with txbuf := s.txbuf.set i (v.setWidth 8) }

end Sys2Proof.Machine
end

