-- ==== Sys2Proof/Machine/Tick.lean ====
section
/-! DEFINITION. A tick of the sequencer (10_state.md R16). -/

namespace Sys2Proof.Machine

/-- One step of the running command's phase (R16). PHASE is NONE only when no command runs (assumption log 9). -/
def phaseStep (P : Config.Params) (L : Level) (s : State) : State :=
  match s.phase with
  | .idle => idleStep P s
  | .tx => txStep P L s
  | .pad => padStep P L s
  | .rx => rxStep L s
  | .none => s

/-- `d`, the level that a tick drives: a TX tick's level, else R (R15, R16). -/
def driveLevel (s : State) : Level :=
  if s.busy = true ∧ s.phase = .tx then txLevel s else .released

/-- `tick(t)` with the line sample `L = L(t)`: the monitor, one phase step, the drive (R16). -/
def tick (P : Config.Params) (L : Level) (s : State) : State :=
  let s1 := monitorLine L s
  let s2 := if s1.busy then phaseStep P L s1 else s1
  { s2 with drive := driveLevel s }

end Sys2Proof.Machine
end

