-- ==== Sys2Proof/Machine/Clock.lean ====
section
/-! DEFINITION. A rising edge of `clk`: reset, the prescaler, the tick, the synchroniser, the host access, and the
output ports (10_state.md R10–R15, 20_memory.md R41–R46). -/

namespace Sys2Proof.Machine

/-- The port values at the next edge: the first of `inputs`, or the free value once the list is empty (assumption
log 2). -/
def edgePins (s : State) : Config.Pins :=
  match s.inputs with
  | [] => Config.pinsAt s.edge
  | p :: _ => p

/-- The edge's port values are used up. -/
def passEdge (s : State) : State := { s with inputs := s.inputs.tail, edge := s.edge + 1 }

/-- The logical level of a `line_i` pin level (R14). -/
def lineLevel (P : Config.Params) (pin : Bool) : Level := if pin = P.inActiveLevel then .asserted else .released

/-- The line sample L(t): SYNC2 as it stands before the edge (R13, R14). -/
def lineSample (P : Config.Params) (s : State) : Level := lineLevel P s.sync2

/-- A tick occurs at this edge: PRESC = TICK_DIV − 1 (R12). -/
def isTick (P : Config.Params) (s : State) : Bool := s.presc == tickDiv P - 1

/-- The block's own part of an edge: a tick if one occurs, the prescaler, the synchroniser (R12, R13, R16). -/
def clockEdge (P : Config.Params) (p : Config.Pins) (s : State) : State :=
  let s1 := if isTick P s then tick P (lineSample P s) s else s
  { s1 with presc := (s.presc + 1) % tickDiv P, sync1 := p.lineI, sync2 := s.sync1 }

/-- A CMD write (R80). A reserved opcode is refused by the block, not by the model (R66, R202; assumption log 19). -/
def writeCmd (v : Word) (s : State) : Host.Outcome State Fault Refusal :=
  match decodeWord v with
  | .ok i => exec i s
  | .error (.reservedOp _) => .next (submitReserved s)

/-- `RegWrite(off, v)` (R41, R43): only CMD, STATUS and TXBUF have an effect (R29, R80, R88, R89). -/
def regWrite (r : Reg) (v : Word) (s : State) : Host.Outcome State Fault Refusal :=
  match r with
  | .cmd => writeCmd v s
  | .status => .next (clearErrors v s)
  | .txbuf i => .next (writeTxbuf i v s)
  | .rxstat | .idlecnt | .syncMark | .oneMark | .zeroMark | .delim | .wordGap | .lineReady | .idlePoll | .idleTotal => .next s
  | .rxPulseTimeout | .rxTimeout | .syncWin | .oneWin | .zeroWin | .rxpulse | .rxbuf _ | .reserved => .next s

/-- The host access of an edge. A read changes nothing (R43). -/
def hostAccess (p : Config.Pins) (s : State) : Host.Outcome State Fault Refusal :=
  if p.busSel && p.busWe then regWrite (regOf p.busAddr) p.busWdata s else .next s

/-- An edge with `rst_n` = 0: all state takes its reset value, and no access has an effect (R11, R220). -/
def resetEdge (P : Config.Params) (s : State) : State :=
  { State.resetWith P with inputs := s.inputs.tail, edge := s.edge + 1 }

/-- One rising edge of `clk`. Within an edge the order is read, tick, write (R46). -/
def edgeStep (P : Config.Params) (s : State) : Host.Outcome State Fault Refusal :=
  if (edgePins s).rstN then hostAccess (edgePins s) (clockEdge P (edgePins s) (passEdge s))
  else .next (resetEdge P s)

/-- The output port `bus_rdata` at the next edge: `RegRead` of the state before the edge, 0 without an access, the
reset values while `rst_n` = 0 (R11, R41; assumption log 6), and a free value during a write (assumption log 5). -/
def busRdata (P : Config.Params) (s : State) : Word :=
  if (edgePins s).busSel then
    if (edgePins s).busWe then Config.rdataDuringWrite s.edge
    else regRead P (regOf (edgePins s).busAddr) (if (edgePins s).rstN then s else State.resetWith P)
  else 0x00000000#32

/-- The output port `line_o`: the released level while `rst_n` = 0, else the level of DRIVE (R11, R15, R220). -/
def lineO (P : Config.Params) (s : State) : Bool :=
  if (edgePins s).rstN && s.drive == .asserted then P.outActiveLevel else !P.outActiveLevel

/-- The port values of an edge at which the host writes `v` to CMD, the rest as they would have been. -/
def cmdWritePins (v : Word) (p : Config.Pins) : Config.Pins :=
  { p with rstN := true, busSel := true, busWe := true, busAddr := 0x000#9, busWdata := v }

end Sys2Proof.Machine
end

