-- ==== Sys2Proof/Machine/Step.lean ====
section
/-! DEFINITION. One step of the machine: one rising edge of `clk` (assumption log 1), and where a command is fetched
from: the host's CMD write at the next edge (20_memory.md R49; assumption log 3). -/

namespace Sys2Proof.Machine

/-- One rising edge of `clk` of the block with its own parameters. -/
def step (s : State) : Host.Outcome State Fault Refusal := edgeStep Config.params s

/-- `s` with the host writing the command word to CMD at the next edge. Only the access and `rst_n` of that edge
change; its `line_i` and the edges after it stay. -/
def State.withFetchWord (s : State) (nbits w : Nat) : State :=
  match s.inputs with
  | [] => { s with inputs := [cmdWritePins (tableWord nbits w) (Config.pinsAt s.edge)] }
  | p :: ps => { s with inputs := cmdWritePins (tableWord nbits w) p :: ps }

end Sys2Proof.Machine
end

