-- ==== Sys2Proof/WellFormed.lean ====
section
/-! DEFINITION. Which commands are well formed: LEN within its opcode's legal range (30_encoding.md R67). An ill-formed
command still decodes and still has a meaning: its CMD write sets ERR_LEN (R203). -/

namespace Sys2Proof

/-- The command's LEN is legal for its opcode (R67). -/
def Instr.wf (i : Instr) : Bool := legalLen i.op i.len

end Sys2Proof
end

