-- ==== Sys2Proof/Safety.lean ====
section
/-! DEFINITION. The terms that claims about the block use: runs of ticks under any line samples, the waveforms as lists
of levels, the durations of rule R125, and the invariant that every step keeps. A run is safe when it never faults or
refuses, and when the line is asserted only inside a TX phase. -/

namespace Sys2Proof.Machine

/-- The state after `n` ticks when the line sample of the i-th tick is `L i`; the first tick is tick 1, as in
spec/95_test_vectors.md. -/
def afterTicks (P : Config.Params) (L : Nat → Level) : Nat → State → State
  | 0, s => s
  | n + 1, s => tick P (L (n + 1)) (afterTicks P L n s)

/-- The running command finishes at the n-th tick, not before (R87). -/
def FinishesAt (P : Config.Params) (L : Nat → Level) (s : State) (n : Nat) : Prop :=
  (∀ m, m < n → (afterTicks P L m s).busy = true) ∧
    (afterTicks P L n s).busy = false ∧ (afterTicks P L n s).done = true

/-- A mark of `n` ticks and its delimiter, tick by tick (R9, R120). -/
def markWave (n : Nat) : List Level := List.replicate n .asserted ++ List.replicate 600 .released

/-- A byte on the wire, tick by tick: bit 7 first, 1200 ticks for a 1 and 600 for a 0 (R45, R120). -/
def byteWave (x : Byte) : List Level :=
  (List.range 8).flatMap fun j => markWave (if x.getLsbD (7 - j) then 1200 else 600)

/-- A frame on the wire, tick by tick (R120). -/
def frameWave (bytes : List Byte) : List Level := markWave 2400 ++ bytes.flatMap byteWave

/-- The number of 1 bits of a byte (R125). -/
def popcount (x : Byte) : Nat := (List.range 8).countP fun j => x.getLsbD j

/-- T_tx, the duration of a frame in ticks (R125). -/
def frameTicks (bytes : List Byte) : Nat :=
  3000 + 9600 * bytes.length + 600 * (bytes.map popcount).sum

/-- `ceil(a/b)` (R8). -/
def ceilDiv (a b : Nat) : Nat := (a + b - 1) / b

/-- The bound of rule R207 on a command's ticks from its first step to its finish. -/
def commandBound (P : Config.Params) (i : Instr) (txbuf : Vector Byte 32) : Nat :=
  let tTx := frameTicks (frameBytes i.len txbuf)
  match i.op with
  | .nop => 0
  | .waitIdle => P.idleTotalUs + P.idlePollUs - 1
  | .txSync => 3000
  | .txByte => 9600 + 600 * popcount i.arg
  | .txFrame => tTx
  | .send => P.idleTotalUs + P.idlePollUs - 1 + max tTx (P.wordGapUs + P.idlePollUs - 1)
  | .receive => if i.len = 0#6 then 1 else 60000

/-- A released stretch and then a pulse, for each pair (gap, width): line samples as a receiver sees them (R162). -/
def pulseLine (ps : List (Nat × Nat)) : List Level :=
  ps.flatMap fun p => List.replicate p.1 .released ++ List.replicate p.2 .asserted

/-- What holds of every state the block can be in: the facts of R21, R22, R28, R30 and R83 about which values occur
together, and the bounds that R30 puts on the hidden counters. -/
structure State.Inv (P : Config.Params) (s : State) : Prop where
  /-- PRESC counts modulo TICK_DIV (R12). -/
  presc_lt : s.presc < tickDiv P
  /-- CUR_OP is 0, PHASE is NONE and no phase remains when no command runs (R21, R87). -/
  idle_fields : s.busy = false → s.curOp = .nop ∧ s.phase = .none ∧ s.phases = []
  /-- A running command is in the first of its remaining phases (R83, R86). -/
  busy_phases : s.busy = true →
    s.phases ≠ [] ∧ s.phases <:+ phaseList s.curOp ∧ s.phases.head? = some s.phase
  /-- A running command was accepted with a legal LEN (R67, R80). -/
  busy_legal : s.busy = true → legalLen s.curOp s.lenL = true
  /-- DONE and BUSY are never both 1 (R82, R87). -/
  done_idle : s.done = true → s.busy = false
  /-- RX_TIMEOUT and PAD_EARLY are set in the tick that finishes the command (R87). -/
  result_done : s.rxTimeout = true ∨ s.padEarly = true → s.done = true
  /-- An asserted sample cleared the idle count (R100). -/
  line_cnt : s.line = true → s.idleCnt = 0#32
  /-- The IDLE phase goes on past no poll tick with k ≥ IDLE_TOTAL_US (R102). -/
  idle_k : s.phase = .idle → s.k = 0 ∨ s.k < P.idleTotalUs + (s.k - 1) % P.idlePollUs
  /-- In a TX phase TX_WAVE is the command's waveform, from the operands as they stand (R49, R85, R120), and TX_POS is
  inside it. -/
  tx_wave : s.phase = .tx → s.txWave = waveSegs s.curOp s.argL s.lenL s.txbuf ∧
    s.txPos < waveLength s.txWave ∧ s.e = s.txPos ∧ s.k = 0
  /-- DRIVE is the level of the last TX tick, and R outside a TX phase (R15, R121). -/
  drive_eq : s.drive = if s.phase = .tx ∧ 0 < s.txPos then levelAt s.txWave (s.txPos - 1) else .released
  /-- The PAD phase follows the whole frame and goes on past no checkpoint with E ≥ WORD_GAP_US (R141, R143). -/
  pad_e : s.phase = .pad → s.txWave = waveSegs s.curOp s.argL s.lenL s.txbuf ∧
    s.txPos = waveLength s.txWave ∧ s.e = s.txPos + s.k ∧ s.e < P.wordGapUs + s.k % P.idlePollUs
  /-- The RX phase goes on only before the overall timeout and while bytes are missing (R167). -/
  rx_run : s.phase = .rx → s.rxE < 60000 ∧ s.rxLen = s.lenL.setWidth 5 ∧
    (s.rxState = .done → s.rxE = 0 ∧ s.rxLen = 0#5) ∧
    (s.rxState ≠ .done → s.rxCount.toNat < s.rxLen.toNat)
  /-- A pulse in progress has at least one sample, all inside the measurement window (R162, R163). -/
  rx_pulse : s.rxSub = .inPulse → 1 ≤ s.rxWidth ∧ s.rxWidth ≤ s.rxW
  /-- RX_COUNT never exceeds RX_LEN ≤ 16 (R166). -/
  rx_count : s.rxCount.toNat ≤ s.rxLen.toNat ∧ s.rxLen.toNat ≤ 16
  /-- In WaitSync nothing has been decoded (R164). -/
  rx_wait : s.rxState = .waitSync → s.rxCount = 0#5 ∧ s.rxBitIdx = 0#3 ∧ s.rxAcc = 0x00#8
  /-- A byte never written by the current RECEIVE reads 0x00 (R28). -/
  rxbuf_tail : ∀ i : Fin 16, s.rxCount.toNat ≤ i.val → s.rxbuf[i] = 0x00#8
  /-- RXPULSE is clear, or shows a width of at most 54999 with its class (R163, R169). -/
  last_pulse : (s.lastWidth = 0#16 ∧ s.lastClass = .none) ∨
    (1 ≤ s.lastWidth.toNat ∧ s.lastWidth.toNat ≤ 54999 ∧ s.lastClass = classify s.lastWidth.toNat)
  /-- R30's bounds on the receiver's counters. -/
  rx_bounds : s.rxWidth ≤ 55000 ∧ s.rxW < 55000 ∧ s.rxE ≤ 60000
  /-- R30's bounds on TX_POS, k and E. -/
  tx_bounds : s.txPos ≤ 463800 ∧ s.k ≤ max P.idleTotalUs P.wordGapUs + P.idlePollUs - 1 ∧
    s.e ≤ max 463800 (P.wordGapUs + P.idlePollUs - 1)

end Sys2Proof.Machine
end

