-- ==== Sys2Proof/Certificates/Slice0/Obligations.lean ====
section
/-! DEFINITION. The statements about the block. Each docstring names the rule of spec/ the statement formalises. `P`
ranges over every choice of the OPEN parameters (R6), `L` over every sequence of line samples (R14, I5); the statements
about `step` are about the block's own parameters. An equation `… = .next { s with … }` is also the frame: every
register, flag and buffer byte that it does not name is unchanged. -/

open Sys2Proof Sys2Proof.Machine

/-! ### Encoding -/

/-- Every command, with every ARG and LEN, and with any value in the reserved bits, decodes from its word (R60–R62,
R65); the encoder writes the word with reserved bits 0 (R68). -/
def Obligations.DecodeOfEncodeIsTheCommand : Prop :=
  ∀ (i : Instr) (hi : BitVec 10) (lo : BitVec 4),
    decodeWord (encode i) = .ok i ∧ decodeWord (cmdWord hi i.len i.arg lo (opCode i.op)) = .ok i

/-- A word that decodes is the encoding of what it decodes to, in every bit that is not reserved (R60, R61). -/
def Obligations.EncodeOfDecodeKeepsEveryUsedBit : Prop :=
  ∀ (v : Word) (i : Instr), decodeWord v = .ok i → encode i = v &&& 0x003FFF0F#32

/-- R62: the reserved bits [7:4] and [31:22] have no effect on any command. -/
def Obligations.ReservedCmdBitsHaveNoEffect : Prop :=
  (∀ (hi hi' : BitVec 10) (lo lo' : BitVec 4) (len : BitVec 6) (arg : BitVec 8) (op : BitVec 4) (s : State),
    regWrite .cmd (cmdWord hi len arg lo op) s = regWrite .cmd (cmdWord hi' len arg lo' op) s) ∧
  decodeWord 0x00000005#32 = .ok (.send 0#8 0#6) ∧ decodeWord 0xFFC000F5#32 = .ok (.send 0#8 0#6) ∧
  Instr.wf (.send 0#8 0#6) = false ∧
  (∀ s : State, s.busy = false →
    regWrite .cmd 0x00000005#32 s = .next { s with errLen := true } ∧
    regWrite .cmd 0xFFC000F5#32 s = .next { s with errLen := true })

/-- The words of 30_encoding.md section 4 decode to the commands that the table gives. -/
def Obligations.ExampleWordsDecode : Prop :=
  decodeWord 0x00000000#32 = .ok (.nop 0#8 0#6) ∧ decodeWord 0x00000001#32 = .ok (.waitIdle 0#8 0#6) ∧
  decodeWord 0x00000002#32 = .ok (.txSync 0#8 0#6) ∧ decodeWord 0x0000B003#32 = .ok (.txByte 0xB0#8 0#6) ∧
  decodeWord 0x00000003#32 = .ok (.txByte 0x00#8 0#6) ∧ decodeWord 0x00130004#32 = .ok (.txFrame 0#8 19#6) ∧
  decodeWord 0x00200004#32 = .ok (.txFrame 0#8 32#6) ∧ decodeWord 0x00020005#32 = .ok (.send 0#8 2#6) ∧
  decodeWord 0x00040005#32 = .ok (.send 0#8 4#6) ∧ decodeWord 0x00020006#32 = .ok (.receive 0#8 2#6) ∧
  decodeWord 0x00000006#32 = .ok (.receive 0#8 0#6) ∧ decodeWord 0x00100006#32 = .ok (.receive 0#8 16#6)

/-! ### One step -/

/-- A step at an edge where the host writes a decodable word to CMD runs that command, after the edge's own part (the
tick if one occurs, the prescaler, the synchroniser); `withFetchWord` sets up such an edge (R41, R46, R49). -/
def Obligations.StepRunsTheDecodedCommand : Prop :=
  (∀ (s : State) (i : Instr), (edgePins s).rstN = true → (edgePins s).busSel = true → (edgePins s).busWe = true →
    (edgePins s).busAddr.toNat < 4 → decodeWord (edgePins s).busWdata = .ok i →
    step s = exec i (clockEdge Config.params (edgePins s) (passEdge s))) ∧
  (∀ (s : State) (nbits w : Nat) (i : Instr), decodeTableWord nbits w = some i →
    step (s.withFetchWord nbits w) =
      exec i (clockEdge Config.params (cmdWritePins (tableWord nbits w) (edgePins s)) (passEdge s)))

/-- R12: the prescaler counts the edges modulo TICK_DIV, the tick occurs at PRESC = TICK_DIV − 1, and an edge that is
no tick and writes no register changes nothing but the prescaler and the synchroniser. -/
def Obligations.TickOccursOncePerTickDivEdges : Prop :=
  tickDiv Config.params * 1000000 = clkHz Config.params ∧ State.reset.presc = 0 ∧
  ∀ s : State, (edgePins s).rstN = true → ((edgePins s).busSel && (edgePins s).busWe) = false →
    (s.presc + 1 < tickDiv Config.params → step s = .next { s with
      presc := s.presc + 1, sync1 := (edgePins s).lineI, sync2 := s.sync1,
      inputs := s.inputs.tail, edge := s.edge + 1 }) ∧
    (s.presc + 1 = tickDiv Config.params → step s = .next {
      tick Config.params (lineSample Config.params s) s with
      presc := 0, sync1 := (edgePins s).lineI, sync2 := s.sync1,
      inputs := s.inputs.tail, edge := s.edge + 1 })

/-- R13: the two-stage synchroniser, at every edge without reset, whatever the host does at it; both stages reset to
the released pin level; a tick samples SYNC2 as it stands before the edge. -/
def Obligations.SynchroniserHasTwoStages : Prop :=
  (∀ s t : State, (edgePins s).rstN = true → step s = .next t →
    t.sync1 = (edgePins s).lineI ∧ t.sync2 = s.sync1) ∧
  State.reset.sync1 = !Config.params.inActiveLevel ∧ State.reset.sync2 = !Config.params.inActiveLevel ∧
  (∀ s t : State, (edgePins s).rstN = true → step s = .next t → s.presc + 1 = tickDiv Config.params →
    (t.line = true ↔ s.sync2 = Config.params.inActiveLevel))

/-- R41: a read carries the register's value before the edge's update (so before a tick at that edge), without an
access `bus_rdata` is 0, and a write takes effect at its edge, after the edge's own part. What `bus_rdata` carries during
a write is open (assumption log 5). -/
def Obligations.AnEdgeReadsThenTicksThenWrites : Prop :=
  (∀ (P : Config.Params) (s : State), (edgePins s).busSel = false → busRdata P s = 0x00000000#32) ∧
  (∀ (P : Config.Params) (s : State), (edgePins s).rstN = true → (edgePins s).busSel = true →
    (edgePins s).busWe = false → busRdata P s = regRead P (regOf (edgePins s).busAddr) s) ∧
  (∀ s : State, (edgePins s).rstN = true → (edgePins s).busSel = true → (edgePins s).busWe = false →
    step s = .next (clockEdge Config.params (edgePins s) (passEdge s))) ∧
  (∀ s : State, (edgePins s).rstN = true → (edgePins s).busSel = true → (edgePins s).busWe = true →
    step s = regWrite (regOf (edgePins s).busAddr) (edgePins s).busWdata
      (clockEdge Config.params (edgePins s) (passEdge s)))

/-- TICK_DIV edges with no register write and no reset are one tick of the sequencer, whose line sample comes through
the synchroniser (R12, R13, R16, R46). -/
def Obligations.TickDivEdgesAreOneTick : Prop :=
  ∀ (s : State) (ps rest : List Config.Pins),
    s.presc = 0 → s.inputs = ps ++ rest → ps.length = tickDiv Config.params →
    (∀ p ∈ ps, p.rstN = true ∧ (p.busSel && p.busWe) = false) →
    let pipe := s.sync2 :: s.sync1 :: ps.map (·.lineI)
    let n := tickDiv Config.params
    Host.Core.run Sys2Proof.core n s = .next {
      tick Config.params (lineLevel Config.params (pipe.getD (n - 1) false)) s with
      sync1 := pipe.getD (n + 1) false, sync2 := pipe.getD n false, inputs := rest, edge := s.edge + n }

/-- No step faults or refuses: "There is no hung, faulted or stuck state" (R207). -/
def Obligations.EveryStepAnswersANextState : Prop :=
  ∀ s : State, ∃ t : State, step s = .next t

/-! ### Reset and the invariant -/

/-- R220: at an edge with `rst_n` = 0 all state takes its reset value and `line_o` is released, whatever the state
was. The registers' reset values are spelled out, read through RegRead; so are the hidden fields'. -/
def Obligations.ResetTakesAllStateToItsResetValue : Prop :=
  (∀ s : State, (edgePins s).rstN = false →
    step s = .next { State.reset with inputs := s.inputs.tail, edge := s.edge + 1 } ∧
    lineO Config.params s = !Config.params.outActiveLevel) ∧
  (let r := State.reset
   regRead Config.params .status r = 0x00000000#32 ∧ regRead Config.params .rxstat r = 0x00000000#32 ∧
   regRead Config.params .idlecnt r = 0x00000000#32 ∧ regRead Config.params .rxpulse r = 0x00000000#32 ∧
   (∀ i : Fin 32, regRead Config.params (.txbuf i) r = 0x00000000#32) ∧
   (∀ i : Fin 16, regRead Config.params (.rxbuf i) r = 0x00000000#32) ∧
   r.busy = false ∧ r.line = false ∧ lineIdle Config.params r = false ∧ r.curOp = .nop ∧ r.done = false ∧
   r.rxTimeout = false ∧ r.idleTimeout = false ∧ r.padEarly = false ∧ r.phase = .none ∧
   r.errBusy = false ∧ r.errOp = false ∧ r.errLen = false ∧
   r.rxCount = 0#5 ∧ r.rxState = .waitSync ∧ r.rxBitIdx = 0#3 ∧ r.rxAcc = 0x00#8 ∧ r.idleCnt = 0#32 ∧
   r.lastWidth = 0#16 ∧ r.lastClass = .none ∧ r.presc = 0 ∧
   r.sync1 = !Config.params.inActiveLevel ∧ r.sync2 = !Config.params.inActiveLevel ∧ r.drive = .released ∧
   r.argL = 0#8 ∧ r.lenL = 0#6 ∧ r.phases = [] ∧ r.k = 0 ∧ r.e = 0 ∧ r.txPos = 0 ∧ r.txWave = [] ∧
   r.rxSub = .waitLow ∧ r.rxWidth = 0 ∧ r.rxW = 0 ∧ r.rxE = 0 ∧ r.rxLen = 0#5)

/-- While `rst_n` = 0 no host access has an effect, reads return the reset values, and `line_o` is released (R11). The
value of a read at the first edge of reset is the model's reading (assumption log 6). -/
def Obligations.HeldInResetTheBlockIgnoresTheBus : Prop :=
  (∀ s s' : State, (edgePins s).rstN = false → (edgePins s').rstN = false →
    s.inputs.tail = s'.inputs.tail → s.edge = s'.edge → step s = step s') ∧
  (∀ s : State, (edgePins s).rstN = false → (edgePins s).busSel = true → (edgePins s).busWe = false →
    busRdata Config.params s = regRead Config.params (regOf (edgePins s).busAddr) State.reset) ∧
  (∀ s : State, (edgePins s).rstN = false → lineO Config.params s = !Config.params.outActiveLevel)

/-- The reset state satisfies the invariant. -/
def Obligations.ResetStateSatisfiesTheInvariant : Prop :=
  State.reset.Inv Config.params

/-- Every step keeps the invariant, from every state that satisfies it, whatever the host and the line do (R21, R22,
R28, R30, R83). -/
def Obligations.EveryStepKeepsTheInvariant : Prop :=
  ∀ s t : State, s.Inv Config.params → step s = .next t → t.Inv Config.params

/-! ### Acceptance of each command -/

/-- R84: NOP has no effect at all, whatever the other bits of the word, and even while a command runs. -/
def Obligations.NopChangesNothing : Prop :=
  (∀ (arg : BitVec 8) (len : BitVec 6) (s : State), exec (.nop arg len) s = .next s) ∧
  (∀ (v : Word) (s : State), v.extractLsb' 0 4 = 0#4 → regWrite .cmd v s = .next s)

/-- WAIT_IDLE written while no command runs is accepted: its IDLE phase starts, and nothing else changes (R80, R82,
R83, R85, R103). -/
def Obligations.WaitIdleIsAccepted : Prop :=
  ∀ (arg : BitVec 8) (len : BitVec 6) (s : State), s.busy = false →
    exec (.waitIdle arg len) s = .next { s with
      busy := true, curOp := .waitIdle, done := false, rxTimeout := false, idleTimeout := false, padEarly := false,
      argL := arg, lenL := len, phases := [.idle], phase := .idle, k := 0 }

/-- TX_SYNC written while no command runs is accepted: its TX phase starts with the sync waveform, 2400 ticks asserted
and 600 released (R80, R82, R83, R85, R120, R122). -/
def Obligations.TxSyncIsAccepted : Prop :=
  ∀ (arg : BitVec 8) (len : BitVec 6) (s : State), s.busy = false →
    exec (.txSync arg len) s = .next { s with
      busy := true, curOp := .txSync, done := false, rxTimeout := false, idleTimeout := false, padEarly := false,
      argL := arg, lenL := len, phases := [.tx], phase := .tx, k := 0,
      txWave := [⟨.asserted, 2400⟩, ⟨.released, 600⟩], txPos := 0, e := 0 }

/-- TX_BYTE written while no command runs is accepted: its TX phase starts with the waveform of ARG, eight marks of
1200 (bit 1) or 600 (bit 0) ticks, bit 7 first, each with a delimiter of 600 (R80, R82, R83, R85, R120, R123). -/
def Obligations.TxByteIsAccepted : Prop :=
  ∀ (arg : BitVec 8) (len : BitVec 6) (s : State), s.busy = false →
    exec (.txByte arg len) s = .next { s with
      busy := true, curOp := .txByte, done := false, rxTimeout := false, idleTimeout := false, padEarly := false,
      argL := arg, lenL := len, phases := [.tx], phase := .tx, k := 0,
      txWave := (List.range 8).flatMap fun j =>
        [⟨.asserted, if arg.getLsbD (7 - j) then 1200 else 600⟩, ⟨.released, 600⟩],
      txPos := 0, e := 0 }

/-- TX_FRAME written while no command runs, with LEN 1 to 32, is accepted: its TX phase starts with a sync and the
bytes TXBUF[0..LEN−1] (R80, R82, R83, R85, R120, R124). -/
def Obligations.TxFrameIsAccepted : Prop :=
  ∀ (arg : BitVec 8) (len : BitVec 6) (s : State), s.busy = false → 1 ≤ len.toNat → len.toNat ≤ 32 →
    exec (.txFrame arg len) s = .next { s with
      busy := true, curOp := .txFrame, done := false, rxTimeout := false, idleTimeout := false, padEarly := false,
      argL := arg, lenL := len, phases := [.tx], phase := .tx, k := 0,
      txWave := frameSegs ((List.range len.toNat).map fun i => s.txbuf[i]?.getD 0x00#8), txPos := 0, e := 0 }

/-- SEND written while no command runs, with LEN 2 to 4, is accepted: its IDLE phase starts, with TX and PAD to follow
(R80, R82, R83, R85, R140). -/
def Obligations.SendIsAccepted : Prop :=
  ∀ (arg : BitVec 8) (len : BitVec 6) (s : State), s.busy = false → 2 ≤ len.toNat → len.toNat ≤ 4 →
    exec (.send arg len) s = .next { s with
      busy := true, curOp := .send, done := false, rxTimeout := false, idleTimeout := false, padEarly := false,
      argL := arg, lenL := len, phases := [.idle, .tx, .pad], phase := .idle, k := 0 }

/-- RECEIVE written while no command runs, with LEN 0 to 16, is accepted: the receive buffer, RXSTAT and RXPULSE are
cleared, and its RX phase starts, already Done when LEN is 0 (R80, R82, R83, R85, R160). -/
def Obligations.ReceiveIsAccepted : Prop :=
  ∀ (arg : BitVec 8) (len : BitVec 6) (s : State), s.busy = false → len.toNat ≤ 16 →
    ∃ t : State, exec (.receive arg len) s = .next t ∧
      t = { s with
        busy := true, curOp := .receive, done := false, rxTimeout := false, idleTimeout := false, padEarly := false,
        argL := arg, lenL := len, phases := [.rx], phase := .rx, k := 0,
        rxbuf := Vector.replicate 16 0x00#8, rxCount := 0#5, rxBitIdx := 0#3, rxAcc := 0x00#8,
        rxState := if len = 0#6 then .done else .waitSync, rxLen := t.rxLen,
        rxSub := .waitLow, rxWidth := 0, rxW := 0, rxE := 0, lastWidth := 0#16, lastClass := .none } ∧
      t.rxLen.toNat = len.toNat

/-! ### Host writes that are refused, and the other host writes -/

/-- R80: the checks of a CMD write, in order, the first that applies deciding. -/
def Obligations.CmdWriteMakesTheChecksInOrder : Prop :=
  ∀ (v : Word) (s : State),
    let op := v.extractLsb' 0 4
    let arg := v.extractLsb' 8 8
    let len := v.extractLsb' 16 6
    let legal := (op = 4#4 → 1 ≤ len.toNat ∧ len.toNat ≤ 32) ∧ (op = 5#4 → 2 ≤ len.toNat ∧ len.toNat ≤ 4) ∧
      (op = 6#4 → len.toNat ≤ 16)
    (op = 0#4 → regWrite .cmd v s = .next s) ∧
    (op ≠ 0#4 → s.busy = true → regWrite .cmd v s = .next { s with errBusy := true }) ∧
    (s.busy = false → 7 ≤ op.toNat → regWrite .cmd v s = .next { s with errOp := true }) ∧
    (s.busy = false → 1 ≤ op.toNat → op.toNat ≤ 6 → ¬ legal → regWrite .cmd v s = .next { s with errLen := true }) ∧
    (s.busy = false → 1 ≤ op.toNat → op.toNat ≤ 6 → legal →
      ∃ o : Op, opCode o = op ∧ regWrite .cmd v s = .next (accept o arg len s))

/-- R201: the two causes of ERR_BUSY, and nothing but the flag changes. -/
def Obligations.WritesWhileBusySetErrBusyOnly : Prop :=
  (∀ (v : Word) (s : State), v.extractLsb' 0 4 ≠ 0#4 → s.busy = true →
    regWrite .cmd v s = .next { s with errBusy := true }) ∧
  (∀ (i : Fin 32) (v : Word) (s : State), s.busy = true → s.curOp = .txFrame ∨ s.curOp = .send →
    regWrite (.txbuf i) v s = .next { s with errBusy := true })

/-- R66 and R202: a reserved opcode, 0x7 to 0xF, is no command; its CMD write while no command runs sets ERR_OP and
nothing else. -/
def Obligations.ReservedOpcodeSetsErrOpOnly : Prop :=
  ∀ (v : Word) (s : State), 7 ≤ (v.extractLsb' 0 4).toNat → s.busy = false →
    decodeWord v = .error (.reservedOp (v.extractLsb' 0 4)) ∧ regWrite .cmd v s = .next { s with errOp := true }

/-- R203 and R67: a CMD write with an illegal LEN, while no command runs, sets ERR_LEN and nothing else; LEN is legal
in 1..32 for TX_FRAME, 2..4 for SEND, 0..16 for RECEIVE, and always for the other commands. -/
def Obligations.IllegalLenSetsErrLenOnly : Prop :=
  (∀ (v : Word) (s : State), s.busy = false →
    let op := v.extractLsb' 0 4
    let len := (v.extractLsb' 16 6).toNat
    (op = 4#4 ∧ (len < 1 ∨ 32 < len)) ∨ (op = 5#4 ∧ (len < 2 ∨ 4 < len)) ∨ (op = 6#4 ∧ 16 < len) →
    regWrite .cmd v s = .next { s with errLen := true }) ∧
  (∀ (i : Instr) (s : State), s.busy = false → i.wf = false → exec i s = .next { s with errLen := true }) ∧
  (∀ i : Instr, i.wf = true ↔
    (i.op = .txFrame → 1 ≤ i.len.toNat ∧ i.len.toNat ≤ 32) ∧ (i.op = .send → 2 ≤ i.len.toNat ∧ i.len.toNat ≤ 4) ∧
    (i.op = .receive → i.len.toNat ≤ 16))

/-- R88: a STATUS write clears the error flags whose bit is 1, in every state, and changes nothing else. -/
def Obligations.StatusWriteClearsTheNamedErrors : Prop :=
  ∀ (v : Word) (s : State), regWrite .status v s = .next { s with
    errBusy := if v.getLsbD 16 then false else s.errBusy
    errOp := if v.getLsbD 17 then false else s.errOp
    errLen := if v.getLsbD 18 then false else s.errLen }

/-- R89: a TXBUF write takes effect unless TX_FRAME or SEND runs, and then only sets ERR_BUSY. The registers are
named by their byte offsets 0x100 + 4·i. -/
def Obligations.TxbufWriteTakesEffectUnlessAFrameRuns : Prop :=
  ∀ (i : Fin 32) (v : Word) (s : State),
    let off := BitVec.ofNat 9 (0x100 + 4 * i.val)
    (s.busy = true ∧ (s.curOp = .txFrame ∨ s.curOp = .send) →
      regWrite (regOf off) v s = .next { s with errBusy := true }) ∧
    (¬ (s.busy = true ∧ (s.curOp = .txFrame ∨ s.curOp = .send)) →
      regWrite (regOf off) v s = .next { s with txbuf := s.txbuf.set i (v.extractLsb' 0 8) })

/-- R29: reserved offsets and reserved fields read 0, and writes to them have no effect. -/
def Obligations.ReservedOffsetsAndFieldsReadZeroIgnoreWrites : Prop :=
  (∀ (P : Config.Params) (a : BitVec 9) (v : Word) (s : State),
    (0x044 ≤ a.toNat ∧ a.toNat < 0x048) ∨ (0x04C ≤ a.toNat ∧ a.toNat < 0x100) ∨ 0x1C0 ≤ a.toNat →
    regRead P (regOf a) s = 0x00000000#32 ∧ regWrite (regOf a) v s = .next s) ∧
  (∀ (P : Config.Params) (s : State),
    regRead P .status s &&& 0xFFF88008#32 = 0#32 ∧ regRead P .rxstat s &&& 0xFF008CE0#32 = 0#32 ∧
    regRead P .rxpulse s &&& 0xFFF80000#32 = 0#32 ∧
    (∀ i : Fin 32, regRead P (.txbuf i) s &&& 0xFFFFFF00#32 = 0#32) ∧
    (∀ i : Fin 16, regRead P (.rxbuf i) s &&& 0xFFFFFF00#32 = 0#32)) ∧
  (∀ (v v' : Word) (s : State), v &&& 0x003FFF0F#32 = v' &&& 0x003FFF0F#32 →
    regWrite .cmd v s = regWrite .cmd v' s) ∧
  (∀ (v v' : Word) (s : State), v &&& 0x00070000#32 = v' &&& 0x00070000#32 →
    regWrite .status v s = regWrite .status v' s) ∧
  (∀ (i : Fin 32) (v v' : Word) (s : State), v &&& 0x000000FF#32 = v' &&& 0x000000FF#32 →
    regWrite (.txbuf i) v s = regWrite (.txbuf i) v' s)

/-- R90: what every register reads, by its byte offset; STATUS, RXSTAT and RXPULSE field by field. -/
def Obligations.RegReadReturnsTheRegisterAtTheOffset : Prop :=
  ∀ (P : Config.Params) (s : State),
    let rd := fun off : Nat => regRead P (regOf (BitVec.ofNat 9 off)) s
    let st := rd 0x004
    let rs := rd 0x008
    let pu := rd 0x048
    rd 0x000 = 0#32 ∧
    (st.getLsbD 0 = s.busy ∧ st.getLsbD 1 = s.line ∧
      st.getLsbD 2 = decide (P.lineReadyUs ≤ s.idleCnt.toNat) ∧ st.getLsbD 3 = false ∧
      st.extractLsb' 4 4 = opCode s.curOp ∧ st.getLsbD 8 = s.done ∧ st.getLsbD 9 = s.rxTimeout ∧
      st.getLsbD 10 = s.idleTimeout ∧ st.getLsbD 11 = s.padEarly ∧
      (st.extractLsb' 12 3).toNat = (match s.phase with | .none => 0 | .idle => 1 | .tx => 2 | .pad => 3 | .rx => 4) ∧
      st.getLsbD 15 = false ∧ st.getLsbD 16 = s.errBusy ∧ st.getLsbD 17 = s.errOp ∧ st.getLsbD 18 = s.errLen ∧
      st.extractLsb' 19 13 = 0#13) ∧
    (rs.extractLsb' 0 5 = s.rxCount ∧ rs.extractLsb' 5 3 = 0#3 ∧
      (rs.extractLsb' 8 2).toNat = (match s.rxState with | .waitSync => 0 | .accumulate => 1 | .done => 2) ∧
      rs.extractLsb' 10 2 = 0#2 ∧ rs.extractLsb' 12 3 = s.rxBitIdx ∧ rs.getLsbD 15 = false ∧
      rs.extractLsb' 16 8 = s.rxAcc ∧ rs.extractLsb' 24 8 = 0#8) ∧
    (pu.extractLsb' 0 16 = s.lastWidth ∧
      (pu.extractLsb' 16 3).toNat =
        (match s.lastClass with | .none => 0 | .sync => 1 | .one => 2 | .zero => 3 | .noise => 4) ∧
      pu.extractLsb' 19 13 = 0#13) ∧
    rd 0x00C = s.idleCnt ∧
    (rd 0x010).toNat = 2400 ∧ (rd 0x014).toNat = 1200 ∧ (rd 0x018).toNat = 600 ∧ (rd 0x01C).toNat = 600 ∧
    (rd 0x020).toNat = P.wordGapUs ∧ (rd 0x024).toNat = P.lineReadyUs ∧ (rd 0x028).toNat = P.idlePollUs ∧
    (rd 0x02C).toNat = P.idleTotalUs ∧ (rd 0x030).toNat = 55000 ∧ (rd 0x034).toNat = 60000 ∧
    rd 0x038 = 0x0B4007D0#32 ∧ rd 0x03C = 0x05A003E8#32 ∧ rd 0x040 = 0x02D001F4#32 ∧
    (∀ i : Fin 32, rd (0x100 + 4 * i.val) = (s.txbuf[i]).setWidth 32) ∧
    (∀ i : Fin 16, rd (0x180 + 4 * i.val) = (s.rxbuf[i]).setWidth 32) ∧
    (∀ n : Nat, n < 0x200 → n / 4 = 0x044 / 4 ∨ (0x04C ≤ n ∧ n < 0x100) ∨ 0x1C0 ≤ n → rd n = 0#32)

/-- R42: the low two address bits are ignored, for reads and for writes, at the bus and at the edge. -/
def Obligations.AddressLowBitsAreIgnored : Prop :=
  ∀ a b : BitVec 9, a.extractLsb' 2 7 = b.extractLsb' 2 7 →
    (∀ (P : Config.Params) (s : State), regRead P (regOf a) s = regRead P (regOf b) s) ∧
    (∀ (v : Word) (s : State), regWrite (regOf a) v s = regWrite (regOf b) v s) ∧
    (∀ (p : Config.Pins) (s : State), hostAccess { p with busAddr := a } s = hostAccess { p with busAddr := b } s)

/-- R43: reads have no side effect; writes have one only at CMD, STATUS and TXBUF; STATUS and TXBUF writes are
idempotent; an accepted CMD write repeated while the command runs sets ERR_BUSY. -/
def Obligations.ReadsHaveNoSideEffectsAndWritesRepeatAsStated : Prop :=
  (∀ (p : Config.Pins) (s : State), p.busWe = false → hostAccess p s = .next s) ∧
  (∀ s : State, (edgePins s).rstN = true → (edgePins s).busSel = true → (edgePins s).busWe = false →
    s.presc + 1 < tickDiv Config.params →
    ∃ t : State, step s = .next t ∧ ∀ r : Reg, regRead Config.params r t = regRead Config.params r s) ∧
  (∀ (r : Reg) (v : Word) (s : State), r ≠ .cmd → r ≠ .status → (∀ i, r ≠ .txbuf i) → regWrite r v s = .next s) ∧
  (∀ (r : Reg) (v : Word) (s : State), r = .status ∨ (∃ i, r = .txbuf i) →
    ∃ t : State, regWrite r v s = .next t ∧ regWrite r v t = .next t) ∧
  (∀ (v : Word) (s t : State), s.busy = false → regWrite .cmd v s = .next t → t.busy = true →
    regWrite .cmd v t = .next { t with errBusy := true })

/-- Only a refused write of its own kind sets an error flag: a CMD write other than NOP while a command runs, or a TXBUF
write while TX_FRAME or SEND runs; a reserved opcode while none runs; a LEN outside its opcode's range while none runs.
Only a STATUS write of 1 to its bit, or reset, clears it (R200 to R203, R210). The write meets the state after the
edge's own part (R46). -/
def Obligations.ErrorFlagsChangeOnlyByTheirWrites : Prop :=
  ∀ s t : State, (edgePins s).rstN = true → step s = .next t →
    let p := edgePins s
    let write := p.busSel = true ∧ p.busWe = true
    let op := p.busWdata.extractLsb' 0 4
    let len := (p.busWdata.extractLsb' 16 6).toNat
    let busyThen := (clockEdge Config.params p (passEdge s)).busy
    let curThen := (clockEdge Config.params p (passEdge s)).curOp
    (t.errBusy = true → s.errBusy = false → write ∧ busyThen = true ∧
      ((p.busAddr.toNat < 4 ∧ op ≠ 0#4) ∨
        (0x100 ≤ p.busAddr.toNat ∧ p.busAddr.toNat < 0x180 ∧ (curThen = .txFrame ∨ curThen = .send)))) ∧
    (t.errOp = true → s.errOp = false → write ∧ busyThen = false ∧ p.busAddr.toNat < 4 ∧ 7 ≤ op.toNat) ∧
    (t.errLen = true → s.errLen = false → write ∧ busyThen = false ∧ p.busAddr.toNat < 4 ∧
      ((op = 4#4 ∧ (len < 1 ∨ 32 < len)) ∨ (op = 5#4 ∧ (len < 2 ∨ 4 < len)) ∨ (op = 6#4 ∧ 16 < len))) ∧
    (t.errBusy = false → s.errBusy = true → write ∧ p.busAddr.toNat / 4 = 1 ∧ p.busWdata.getLsbD 16 = true) ∧
    (t.errOp = false → s.errOp = true → write ∧ p.busAddr.toNat / 4 = 1 ∧ p.busWdata.getLsbD 17 = true) ∧
    (t.errLen = false → s.errLen = true → write ∧ p.busAddr.toNat / 4 = 1 ∧ p.busWdata.getLsbD 18 = true)

/-- No write preempts or changes a running command: at an edge that is no tick, the command and everything it works
with stay (R81, R201, R230). -/
def Obligations.NoWritePreemptsTheRunningCommand : Prop :=
  ∀ s t : State, s.busy = true → (edgePins s).rstN = true → s.presc + 1 < tickDiv Config.params →
    step s = .next t →
    t = { s with
      presc := s.presc + 1, sync1 := (edgePins s).lineI, sync2 := s.sync1,
      inputs := s.inputs.tail, edge := s.edge + 1,
      errBusy := t.errBusy, errOp := t.errOp, errLen := t.errLen, txbuf := t.txbuf } ∧
    (t.txbuf ≠ s.txbuf → s.curOp ≠ .txFrame ∧ s.curOp ≠ .send)

/-- While TX_FRAME or SEND still runs, no step without reset changes TXBUF, ARG_L or LEN_L, so the frame sent is the
one that stood at acceptance (R49, R89). -/
def Obligations.TheFrameInFlightIsFrozen : Prop :=
  ∀ s t : State, (edgePins s).rstN = true → step s = .next t →
    (clockEdge Config.params (edgePins s) (passEdge s)).busy = true → s.busy = true →
    s.curOp = .txFrame ∨ s.curOp = .send →
    t.txbuf = s.txbuf ∧ t.argL = s.argL ∧ t.lenL = s.lenL

/-! ### The line monitor and the IDLE phase -/

/-- R100: the monitor runs at every tick whatever runs, and IDLE_CNT is the number of consecutive released samples
that end with the current tick, capped at 2^32 − 1. -/
def Obligations.IdleCntCountsConsecutiveReleasedSamples : Prop :=
  (∀ (P : Config.Params) (L : Level) (s : State),
    (tick P L s).idleCnt.toNat = if L = .asserted then 0 else min (s.idleCnt.toNat + 1) (2 ^ 32 - 1)) ∧
  (∀ (P : Config.Params) (L : Nat → Level) (s : State) (n m : Nat), m < n → L (n - m) = .asserted →
    (∀ j, n - m < j → j ≤ n → L j = .released) →
    (afterTicks P L n s).idleCnt.toNat = min m (2 ^ 32 - 1)) ∧
  (∀ (P : Config.Params) (L : Nat → Level) (s : State) (n : Nat), (∀ j, 1 ≤ j → j ≤ n → L j = .released) →
    s.idleCnt = 0#32 → (afterTicks P L n s).idleCnt.toNat = min n (2 ^ 32 - 1)) ∧
  (∀ (P : Config.Params) (L : Level) (s : State), (tick P L s).phase = .idle → s.phase = .idle → s.busy = true →
    s.k % P.idlePollUs = 0 → (tick P L s).k = s.k + 1 → (tick P L s).idleCnt.toNat < P.lineReadyUs)

/-- WAIT_IDLE finishes at its first poll tick n (n = 1, 1 + P, 1 + 2P, …) at which the line is idle or n ≥
IDLE_TOTAL_US, and IDLE_TIMEOUT tells which; the line stays released (R102, R103). -/
def Obligations.WaitIdleFinishesAtItsFirstDecidingPoll : Prop :=
  ∀ (P : Config.Params) (L : Nat → Level) (arg : BitVec 8) (len : BitVec 6) (s : State), s.busy = false →
    ∃ t : State, exec (.waitIdle arg len) s = .next t ∧
      let idle := fun n : Nat => P.lineReadyUs ≤ (afterTicks P L n t).idleCnt.toNat
      let decides := fun n : Nat => 1 ≤ n ∧ (n - 1) % P.idlePollUs = 0 ∧ (idle n ∨ P.idleTotalUs ≤ n)
      ∀ n : Nat, decides n → (∀ m, m < n → ¬ decides m) →
        FinishesAt P L t n ∧ ((afterTicks P L n t).idleTimeout = true ↔ ¬ idle n) ∧
        ∀ m, 1 ≤ m → m ≤ n → (afterTicks P L m t).drive = .released

/-- The IDLE phase of WAIT_IDLE or SEND ends within IDLE_TOTAL_US + IDLE_POLL_US − 1 ticks, whatever the line does
(R105). -/
def Obligations.IdlePhaseAlwaysEnds : Prop :=
  ∀ (P : Config.Params) (L : Nat → Level) (s : State),
    s.busy = true → s.curOp = .waitIdle ∨ s.curOp = .send → s.phases = phaseList s.curOp → s.phase = .idle → s.k = 0 →
    ∃ n, 1 ≤ n ∧ n ≤ P.idleTotalUs + P.idlePollUs - 1 ∧
      (∀ m, m < n → (afterTicks P L m s).phase = .idle ∧ (afterTicks P L m s).busy = true) ∧
      (afterTicks P L n s).phase = (if s.curOp = .send then .tx else .none) ∧
      ((afterTicks P L n s).busy = true ↔ s.curOp = .send)

/-- R104: with IDLE_CNT ≥ LINE_READY_US − 1 and a released first sample, the IDLE phase ends at its first tick,
without IDLE_TIMEOUT. -/
def Obligations.WaitIdleOnAnIdleLineTakesOneTick : Prop :=
  ∀ (P : Config.Params) (L : Nat → Level) (s : State), s.idleCnt.toNat ≥ P.lineReadyUs - 1 → L 1 = .released →
    (s.busy = false → ∀ (arg : BitVec 8) (len : BitVec 6), ∃ t : State, exec (.waitIdle arg len) s = .next t ∧
      FinishesAt P L t 1 ∧ (afterTicks P L 1 t).idleTimeout = false) ∧
    (s.busy = true → s.curOp = .send → s.phases = phaseList .send → s.phase = .idle → s.k = 0 →
      (tick P (L 1) s).phase = .tx ∧ (tick P (L 1) s).idleTimeout = s.idleTimeout)

/-- With the line asserted at every tick, WAIT_IDLE finishes at the first poll tick with k ≥ IDLE_TOTAL_US, with
IDLE_TIMEOUT = 1 (R103, corner cases). -/
def Obligations.WaitIdleOnAnAssertedLineTimesOut : Prop :=
  ∀ (P : Config.Params) (L : Nat → Level) (arg : BitVec 8) (len : BitVec 6) (s : State),
    s.busy = false → (∀ n, L n = .asserted) →
    ∃ t : State, exec (.waitIdle arg len) s = .next t ∧
      FinishesAt P L t (1 + P.idlePollUs * ceilDiv (P.idleTotalUs - 1) P.idlePollUs) ∧
      (afterTicks P L (1 + P.idlePollUs * ceilDiv (P.idleTotalUs - 1) P.idlePollUs) t).idleTimeout = true

/-- From an idle count of 0, as after reset, with the line released throughout, WAIT_IDLE finishes at the first poll
tick with k ≥ LINE_READY_US, without IDLE_TIMEOUT, where IDLE_TOTAL_US does not come first (R103 example, R222). -/
def Obligations.WaitIdleFromAZeroCountWaitsLineReady : Prop :=
  ∀ (P : Config.Params) (L : Nat → Level) (arg : BitVec 8) (len : BitVec 6) (s : State),
    s.busy = false → s.idleCnt = 0#32 → (∀ n, L n = .released) → P.lineReadyUs ≤ P.idleTotalUs →
    ∃ t : State, exec (.waitIdle arg len) s = .next t ∧
      FinishesAt P L t (1 + P.idlePollUs * ceilDiv (P.lineReadyUs - 1) P.idlePollUs) ∧
      (afterTicks P L (1 + P.idlePollUs * ceilDiv (P.lineReadyUs - 1) P.idlePollUs) t).idleTimeout = false

/-! ### The bit encoder -/

/-- The segment form that State holds is the waveform of R120: its length and its levels are those of the flattened
list, and a frame's segments flatten to the sync and the bytes, most significant bit first. -/
def Obligations.SegmentsAreTheWaveform : Prop :=
  (∀ segs : List Segment, waveLength segs = (flatten segs).length) ∧
  (∀ (segs : List Segment) (pos : Nat), levelAt segs pos = (flatten segs).getD pos .released) ∧
  (∀ x : Byte, flatten (byteSegs x) = byteWave x) ∧
  (∀ bytes : List Byte, flatten (frameSegs bytes) = frameWave bytes)

/-- R125: the durations of the waveforms. -/
def Obligations.WaveformDurations : Prop :=
  (flatten syncSegs).length = 3000 ∧
  (flatten syncSegs = List.replicate 2400 .asserted ++ List.replicate 600 .released) ∧
  (flatten (bitSegs true)).length = 1800 ∧ (flatten (bitSegs false)).length = 1200 ∧
  (∀ x : Byte, (flatten (byteSegs x)).length = 9600 + 600 * popcount x ∧
    9600 ≤ (flatten (byteSegs x)).length ∧ (flatten (byteSegs x)).length ≤ 14400) ∧
  (flatten (byteSegs 0x00#8)).length = 9600 ∧ (flatten (byteSegs 0xFF#8)).length = 14400 ∧
  (∀ bytes : List Byte,
    (flatten (frameSegs bytes)).length = 3000 + 9600 * bytes.length + 600 * (bytes.map popcount).sum) ∧
  (flatten (frameSegs (List.replicate 32 0xFF#8))).length = 463800 ∧
  (∀ (len : BitVec 6) (txbuf : Vector Byte 32), (flatten (frameSegs (frameBytes len txbuf))).length ≤ 463800)

/-- TX_SYNC drives the line asserted for 2400 ticks and released for 600, whatever the line shows, and finishes at the
3000th tick with no result flag set (R121, R122, R126). -/
def Obligations.TxSyncDrivesTheSyncMark : Prop :=
  ∀ (P : Config.Params) (L : Nat → Level) (arg : BitVec 8) (len : BitVec 6) (s : State), s.busy = false →
    ∃ t : State, exec (.txSync arg len) s = .next t ∧ FinishesAt P L t 3000 ∧
      (∀ i, 1 ≤ i → i ≤ 2400 → (afterTicks P L i t).drive = .asserted) ∧
      (∀ i, 2400 < i → i ≤ 3000 → (afterTicks P L i t).drive = .released) ∧
      (let f := afterTicks P L 3000 t
       f.rxTimeout = false ∧ f.idleTimeout = false ∧ f.padEarly = false ∧
       f.errBusy = s.errBusy ∧ f.errOp = s.errOp ∧ f.errLen = s.errLen)

/-- TX_BYTE drives the eight marks of ARG, most significant bit first, whatever the line shows, and finishes at tick
9600 + 600·popcount(ARG) with no result flag set (R121, R123, R126). -/
def Obligations.TxByteDrivesTheByte : Prop :=
  ∀ (P : Config.Params) (L : Nat → Level) (arg : BitVec 8) (len : BitVec 6) (s : State), s.busy = false →
    ∃ t : State, exec (.txByte arg len) s = .next t ∧ FinishesAt P L t (9600 + 600 * popcount arg) ∧
      (∀ i, i < 9600 + 600 * popcount arg → some (afterTicks P L (i + 1) t).drive = (byteWave arg)[i]?) ∧
      (let f := afterTicks P L (9600 + 600 * popcount arg) t
       f.rxTimeout = false ∧ f.idleTimeout = false ∧ f.padEarly = false ∧
       f.errBusy = s.errBusy ∧ f.errOp = s.errOp ∧ f.errLen = s.errLen)

/-- TX_FRAME drives a sync and then TXBUF[0..LEN−1] as they stand at acceptance, back to back, whatever the line shows,
and finishes at tick T_tx with no result flag set (R121, R124, R125, R126). -/
def Obligations.TxFrameDrivesTheFrame : Prop :=
  ∀ (P : Config.Params) (L : Nat → Level) (arg : BitVec 8) (len : BitVec 6) (s : State),
    s.busy = false → 1 ≤ len.toNat → len.toNat ≤ 32 →
    let bytes := s.txbuf.toList.take len.toNat
    ∃ t : State, exec (.txFrame arg len) s = .next t ∧ FinishesAt P L t (frameTicks bytes) ∧
      (∀ i, i < frameTicks bytes → some (afterTicks P L (i + 1) t).drive = (frameWave bytes)[i]?) ∧
      (let f := afterTicks P L (frameTicks bytes) t
       f.rxTimeout = false ∧ f.idleTimeout = false ∧ f.padEarly = false ∧
       f.errBusy = s.errBusy ∧ f.errOp = s.errOp ∧ f.errLen = s.errLen)

/-- DRIVE is written only at ticks, and is A only at a tick of a TX phase whose waveform is A there; `line_o` shows it
(R15). -/
def Obligations.TheLineIsDrivenOnlyByATxTick : Prop :=
  (∀ (P : Config.Params) (L : Level) (s : State), (tick P L s).drive = .asserted →
    s.busy = true ∧ s.phase = .tx ∧ (flatten s.txWave)[s.txPos]? = some .asserted) ∧
  (∀ s t : State, (edgePins s).rstN = true → s.presc + 1 < tickDiv Config.params → step s = .next t →
    t.drive = s.drive) ∧
  (∀ (P : Config.Params) (s : State), (edgePins s).rstN = true →
    lineO P s = if s.drive = .asserted then P.outActiveLevel else !P.outActiveLevel) ∧
  State.reset.drive = .released

/-! ### SEND -/

/-- R142: SEND's last TX tick is the first padding checkpoint: the elapsed test, then the line test, then the PAD
phase. -/
def Obligations.SendsLastTxTickIsTheFirstCheckpoint : Prop :=
  ∀ (P : Config.Params) (L : Level) (s : State), s.busy = true → s.curOp = .send → s.phase = .tx →
    s.phases = [.tx, .pad] → s.txPos + 1 = waveLength s.txWave →
    let t := tick P L s
    t.e = s.e + 1 ∧
    (P.wordGapUs ≤ s.e + 1 → t.busy = false ∧ t.done = true ∧ t.phase = .none ∧ t.padEarly = s.padEarly) ∧
    (s.e + 1 < P.wordGapUs → L = .asserted → t.busy = false ∧ t.done = true ∧ t.phase = .none ∧ t.padEarly = true) ∧
    (s.e + 1 < P.wordGapUs → L = .released →
      t.busy = true ∧ t.phase = .pad ∧ t.phases = [.pad] ∧ t.k = 0 ∧ t.padEarly = s.padEarly)

/-- Without an early stop, SEND's ticks from its first sync tick to its finish number T_tx, or T_tx plus whole poll
intervals up to the word gap (R143, R144). The line is tested only at the checkpoints. -/
def Obligations.SendPadsToTheWordGap : Prop :=
  ∀ (P : Config.Params) (L : Nat → Level) (s : State), s.busy = true → s.curOp = .send → s.phase = .tx →
    s.phases = [.tx, .pad] → s.txPos = 0 → s.e = 0 → 0 < waveLength s.txWave →
    let tTx := waveLength s.txWave
    let n := if P.wordGapUs ≤ tTx then tTx else tTx + P.idlePollUs * ceilDiv (P.wordGapUs - tTx) P.idlePollUs
    (∀ j, tTx + j * P.idlePollUs < n → L (tTx + j * P.idlePollUs) = .released) →
    FinishesAt P L s n ∧ (afterTicks P L n s).padEarly = s.padEarly

/-- An asserted sample at a checkpoint before the word gap, the first such, stops the padding there with PAD_EARLY = 1
(R142, R143, R144). -/
def Obligations.SendPaddingStopsEarlyOnTraffic : Prop :=
  ∀ (P : Config.Params) (L : Nat → Level) (s : State) (j : Nat), s.busy = true → s.curOp = .send → s.phase = .tx →
    s.phases = [.tx, .pad] → s.txPos = 0 → s.e = 0 → 0 < waveLength s.txWave →
    let tTx := waveLength s.txWave
    tTx + j * P.idlePollUs < P.wordGapUs → L (tTx + j * P.idlePollUs) = .asserted →
    (∀ j', j' < j → L (tTx + j' * P.idlePollUs) = .released) →
    FinishesAt P L s (tTx + j * P.idlePollUs) ∧ (afterTicks P L (tTx + j * P.idlePollUs) s).padEarly = true

/-- A whole SEND: released during the IDLE phase, then the same waveform as TX_FRAME with the same LEN and TXBUF, then
released until it finishes, within R207's bound, whatever the line does (R140, R146, R207). -/
def Obligations.SendDrivesIdleThenTheFrameThenPadding : Prop :=
  ∀ (P : Config.Params) (L : Nat → Level) (arg : BitVec 8) (len : BitVec 6) (s : State),
    s.busy = false → 2 ≤ len.toNat → len.toNat ≤ 4 →
    let bytes := s.txbuf.toList.take len.toNat
    let tTx := frameTicks bytes
    ∃ t : State, exec (.send arg len) s = .next t ∧
      ∃ n N, 1 ≤ n ∧ n ≤ P.idleTotalUs + P.idlePollUs - 1 ∧ n + tTx ≤ N ∧
        N ≤ n + max tTx (P.wordGapUs + P.idlePollUs - 1) ∧ FinishesAt P L t N ∧
        (∀ i, 1 ≤ i → i ≤ n → (afterTicks P L i t).drive = .released) ∧
        (∀ i, i < tTx → some (afterTicks P L (n + 1 + i) t).drive = (frameWave bytes)[i]?) ∧
        (∀ i, n + tTx < i → i ≤ N → (afterTicks P L i t).drive = .released)

/-! ### RECEIVE -/

/-- R161: the tolerance windows and the classifier. -/
def Obligations.ClassifierUsesTheToleranceWindows : Prop :=
  (∀ m : Nat, 5 * m ≤ 6 * windowLo m ∧ 6 * windowLo m < 5 * m + 6 ∧ 5 * windowHi m ≤ 6 * m ∧
    6 * m < 5 * windowHi m + 5) ∧
  (∀ w : Nat, (classify w = .sync ↔ 2000 ≤ w ∧ w ≤ 2880) ∧ (classify w = .one ↔ 1000 ≤ w ∧ w ≤ 1440) ∧
    (classify w = .zero ↔ 500 ≤ w ∧ w ≤ 720) ∧
    (classify w = .noise ↔ w < 500 ∨ (720 < w ∧ w < 1000) ∨ (1440 < w ∧ w < 2000) ∨ 2880 < w))

/-- An RX tick. It counts RX_E and RX_W and ends by Done, else by the overall timeout, else goes on (R167, R168). In
WAIT_LOW an asserted sample is skipped and a released one leads to WAIT_EDGE; in WAIT_EDGE an asserted sample begins a
pulse; in IN_PULSE it widens the pulse, and a released one completes and delivers it, in a new window (R162). A tick
that delivers nothing and ends with RX_W ≥ 55000 times the window out: to WAIT_LOW on an asserted sample, to WAIT_EDGE
on a released one, and nothing is delivered (R163). A delivered pulse writes RXPULSE; in WaitSync only a SYNC-class
width leads to Accumulate; in Accumulate it is the bit 7 − RX_BITIDX, 1 exactly when the width is ONE-class, and the
eighth bit appends the byte and may end in Done (R164, R165, R166, R169). -/
def Obligations.RxTickMeasuresPulsesAndAssemblesBits : Prop :=
  (∀ (P : Config.Params) (L : Level) (s : State), s.busy = true → s.phase = .rx →
    let m := rxMeasure L (monitorLine L s)
    tick P L s =
      if m.rxState = .done then { finish m with drive := .released }
      else if 60000 ≤ m.rxE then { finish { m with rxTimeout := true } with drive := .released }
      else { m with drive := .released }) ∧
  (∀ (L : Level) (s : State), s.rxSub = .inPulse → L = .released →
    rxMeasure L s = deliverPulse s.rxWidth { s with rxSub := .waitEdge, rxE := s.rxE + 1, rxW := 0 }) ∧
  (∀ (L : Level) (s : State), ¬ (s.rxSub = .inPulse ∧ L = .released) → s.rxW + 1 < 55000 →
    rxMeasure L s = { s with
      rxE := s.rxE + 1, rxW := s.rxW + 1
      rxSub := if L = .released then .waitEdge else if s.rxSub = .waitLow then .waitLow else .inPulse
      rxWidth := if L = .released ∨ s.rxSub = .waitLow then s.rxWidth
        else if s.rxSub = .waitEdge then 1 else s.rxWidth + 1 }) ∧
  (∀ (L : Level) (s : State), ¬ (s.rxSub = .inPulse ∧ L = .released) → 55000 ≤ s.rxW + 1 →
    rxMeasure L s = { s with
      rxE := s.rxE + 1, rxW := 0
      rxSub := if L = .released then .waitEdge else .waitLow
      rxWidth := if L = .released ∨ s.rxSub = .waitLow then s.rxWidth
        else if s.rxSub = .waitEdge then 1 else s.rxWidth + 1 }) ∧
  ∀ (w : Nat) (s : State), w < 65536 →
    let t := deliverPulse w s
    (t.lastWidth.toNat = w ∧ t.lastClass = classify w) ∧
    (s.rxState = .waitSync → classify w = .sync → t.rxState = .accumulate ∧ t.rxBitIdx = 0#3 ∧ t.rxAcc = 0x00#8 ∧
      t.rxCount = s.rxCount ∧ t.rxbuf = s.rxbuf) ∧
    (s.rxState = .waitSync → classify w ≠ .sync →
      t = { s with lastWidth := t.lastWidth, lastClass := t.lastClass }) ∧
    (s.rxState = .accumulate → s.rxBitIdx.toNat < 7 →
      t.rxState = .accumulate ∧ t.rxBitIdx.toNat = s.rxBitIdx.toNat + 1 ∧ t.rxCount = s.rxCount ∧
      t.rxbuf = s.rxbuf ∧
      ∀ j, j < 8 → t.rxAcc.getLsbD j =
        if j = 7 - s.rxBitIdx.toNat then decide (1000 ≤ w ∧ w ≤ 1440) else s.rxAcc.getLsbD j) ∧
    (s.rxState = .accumulate → s.rxBitIdx.toNat = 7 → s.rxCount.toNat < 16 →
      t.rxBitIdx = 0#3 ∧ t.rxAcc = 0x00#8 ∧ t.rxCount.toNat = s.rxCount.toNat + 1 ∧
      (t.rxState = if s.rxCount.toNat + 1 = s.rxLen.toNat then .done else .accumulate) ∧
      (∀ i : Fin 16, i.val ≠ s.rxCount.toNat → t.rxbuf[i] = s.rxbuf[i]) ∧
      (∀ i : Fin 16, i.val = s.rxCount.toNat → ∀ j, j < 8 → (t.rxbuf[i]).getLsbD j =
        if j = 0 then decide (1000 ≤ w ∧ w ≤ 1440) else s.rxAcc.getLsbD j))

/-- RECEIVE 0 finishes at its first tick, with RX_STATE Done, no byte and no timeout, whatever the line shows (R160,
R167, R168). -/
def Obligations.ReceiveZeroFinishesAtOnce : Prop :=
  ∀ (P : Config.Params) (L : Nat → Level) (arg : BitVec 8) (s : State), s.busy = false →
    ∃ t : State, exec (.receive arg 0#6) s = .next t ∧ FinishesAt P L t 1 ∧
      (let f := afterTicks P L 1 t
       f.rxState = .done ∧ f.rxCount = 0#5 ∧ f.rxTimeout = false ∧ f.lastClass = .none ∧
       ∀ i : Fin 16, f.rxbuf[i] = 0x00#8)

/-- R172: on a line that is released at every tick, or asserted at every tick, RECEIVE n (n ≥ 1) finishes at tick
60000 with RX_TIMEOUT = 1 and nothing received, and sets no error flag. -/
def Obligations.SilenceTimesOutAfterSixtyThousandTicks : Prop :=
  ∀ (P : Config.Params) (L : Nat → Level) (l : Level) (arg : BitVec 8) (len : BitVec 6) (s : State),
    s.busy = false → 1 ≤ len.toNat → len.toNat ≤ 16 → (∀ n, L n = l) →
    ∃ t : State, exec (.receive arg len) s = .next t ∧ FinishesAt P L t 60000 ∧
      (let f := afterTicks P L 60000 t
       f.rxE = 60000 ∧ f.rxTimeout = true ∧ f.rxCount = 0#5 ∧ f.rxState = .waitSync ∧
       (∀ i : Fin 16, f.rxbuf[i] = 0x00#8) ∧ regRead P .rxpulse f = 0x00000000#32 ∧
       f.errBusy = s.errBusy ∧ f.errOp = s.errOp ∧ f.errLen = s.errLen)

/-- RECEIVE ends by Done, or else at tick 60000 by the overall timeout, whatever the line does; a frame completed at
tick 60000 counts as received (R167). -/
def Obligations.ReceiveEndsByDoneOrTimeout : Prop :=
  ∀ (P : Config.Params) (L : Nat → Level) (arg : BitVec 8) (len : BitVec 6) (s : State),
    s.busy = false → len.toNat ≤ 16 →
    ∃ t : State, exec (.receive arg len) s = .next t ∧
      ∃ n, 1 ≤ n ∧ n ≤ 60000 ∧ FinishesAt P L t n ∧
        (let f := afterTicks P L n t
         (f.rxTimeout = true ↔ f.rxState ≠ .done) ∧ (f.rxTimeout = true → n = 60000) ∧
         (f.rxState = .done ↔ f.rxCount.toNat = len.toNat) ∧
         ∀ i, 1 ≤ i → i ≤ n → (afterTicks P L i t).drive = .released)

/-- Round trip between two blocks: what TX_FRAME drives, delayed by d ≥ 1 released samples, is what RECEIVE of the same
length decodes, if the last mark ends in time (R170, nominal widths). -/
def Obligations.ReceiveDecodesWhatTxFrameDrives : Prop :=
  ∀ (P Q : Config.Params) (LS LR : Nat → Level) (argS argR : BitVec 8) (len : BitVec 6) (s r : State) (d : Nat),
    s.busy = false → r.busy = false → 1 ≤ len.toNat → len.toNat ≤ 16 → 1 ≤ d →
    let bytes := s.txbuf.toList.take len.toNat
    let last := d + frameTicks bytes - 599
    last ≤ 60000 →
    ∃ t u : State, exec (.txFrame argS len) s = .next t ∧ exec (.receive argR len) r = .next u ∧
      ((∀ i, 1 ≤ i → i ≤ d → LR i = .released) →
       (∀ i, 1 ≤ i → i ≤ frameTicks bytes → LR (d + i) = (afterTicks P LS i t).drive) →
       FinishesAt Q LR u last ∧
       (let f := afterTicks Q LR last u
        f.rxState = .done ∧ f.rxCount.toNat = len.toNat ∧ f.rxTimeout = false ∧
        f.rxbuf.toList.take len.toNat = bytes))

/-- Any frame whose sync width lies in the SYNC window and whose data widths lie in the ONE window exactly where the
bit is 1 is decoded, whatever its delimiters and whatever came before it (R161–R166, R173), if each pulse ends inside
its measurement window (R163) and the whole in 60000 ticks. Before the frame the line is asserted for `low` ticks from
RECEIVE's first tick, a pulse in progress that is skipped whatever its width (R162), or is released for `rel` ticks and
then asserted until the window times out or longer, a pulse that is abandoned and its remainder skipped (R163); then
come pulses of any width but a sync's, which are ignored (R164). Each pair gives a pulse's gap before it and its width.
-/
def Obligations.ToleratedFramesAreDecoded : Prop :=
  ∀ (Q : Config.Params) (LR : Nat → Level) (argR : BitVec 8) (len : BitVec 6) (r : State)
    (rel low : Nat) (noise : List (Nat × Nat)) (g0 w0 : Nat) (ps : List (Nat × Nat)) (bytes : List Byte),
    r.busy = false → 1 ≤ len.toNat → len.toNat ≤ 16 → bytes.length = len.toNat → ps.length = 8 * len.toNat →
    2000 ≤ w0 → w0 ≤ 2880 → (∀ p ∈ noise, p.2 < 2000 ∨ 2880 < p.2) →
    let pulses := noise ++ (g0, w0) :: ps
    (∀ p ∈ pulses, 1 ≤ p.1 ∧ 1 ≤ p.2 ∧ p.1 + p.2 ≤ 55000) →
    (rel = 0 ∧ low + (pulses.headD (0, 0)).1 + (pulses.headD (0, 0)).2 + 1 ≤ 55000) ∨
      (rel < 55000 ∧ 55000 ≤ rel + low) →
    (∀ j, j < ps.length → ((1000 ≤ (ps.getD j (0, 0)).2 ∧ (ps.getD j (0, 0)).2 ≤ 1440) ↔
      (bytes.getD (j / 8) 0x00#8).getLsbD (7 - j % 8) = true)) →
    let samples := List.replicate rel .released ++ List.replicate low .asserted ++ pulseLine pulses
    samples.length + 1 ≤ 60000 →
    (∀ i, i < samples.length → some (LR (i + 1)) = samples[i]?) → LR (samples.length + 1) = .released →
    ∃ u : State, exec (.receive argR len) r = .next u ∧ FinishesAt Q LR u (samples.length + 1) ∧
      (let f := afterTicks Q LR (samples.length + 1) u
       f.rxState = .done ∧ f.rxCount.toNat = len.toNat ∧ f.rxTimeout = false ∧
       f.rxbuf.toList.take len.toNat = bytes)

/-! ### The whole machine -/

/-- R207: every accepted command ends, within its bound; the TX commands and RECEIVE 0 take exactly theirs. -/
def Obligations.EveryAcceptedCommandEnds : Prop :=
  ∀ (P : Config.Params) (L : Nat → Level) (i : Instr) (s : State), s.busy = false → i.wf = true → i.op ≠ .nop →
    ∃ t : State, exec i s = .next t ∧
      ∃ n, 1 ≤ n ∧ n ≤ commandBound P i s.txbuf ∧ FinishesAt P L t n ∧
        (i.op = .txSync ∨ i.op = .txByte ∨ i.op = .txFrame → n = commandBound P i s.txbuf)

/-- While no command runs, a tick changes LINE, IDLE_CNT and DRIVE (to R) and nothing else, so a finished command's
results stay (R16, R48). -/
def Obligations.IdleTicksKeepTheResults : Prop :=
  ∀ (P : Config.Params) (L : Level) (s : State), s.busy = false →
    ∃ c : BitVec 32, tick P L s = { s with line := decide (L = .asserted), idleCnt := c, drive := .released }

/-- RXSTAT, RXPULSE and RXBUF change only by RECEIVE acceptance and by RX steps (R22, R82). -/
def Obligations.ReceiverFieldsChangeOnlyByReceive : Prop :=
  (∀ (P : Config.Params) (L : Level) (s : State), s.busy = false ∨ s.phase ≠ .rx →
    let t := tick P L s
    t.rxCount = s.rxCount ∧ t.rxState = s.rxState ∧ t.rxBitIdx = s.rxBitIdx ∧ t.rxAcc = s.rxAcc ∧
    t.lastWidth = s.lastWidth ∧ t.lastClass = s.lastClass ∧ t.rxbuf = s.rxbuf) ∧
  (∀ (r : Reg) (v : Word) (s t : State), regWrite r v s = .next t → ¬ (r = .cmd ∧ v.extractLsb' 0 4 = 6#4) →
    t.rxCount = s.rxCount ∧ t.rxState = s.rxState ∧ t.rxBitIdx = s.rxBitIdx ∧ t.rxAcc = s.rxAcc ∧
    t.lastWidth = s.lastWidth ∧ t.lastClass = s.lastClass ∧ t.rxbuf = s.rxbuf)
end

