-- ==== Sys2Proof/Laws/Decode.lean ====
section
/-! SUPPORT. The fields of a CMD word, and the decoder's cases (30_encoding.md R60, R61, R65). -/

namespace Sys2Proof

theorem cmdOp_cmdWord (hi : BitVec 10) (len : BitVec 6) (arg : BitVec 8) (lo op : BitVec 4) :
    cmdOp (cmdWord hi len arg lo op) = op := by
  apply BitVec.eq_of_getLsbD_eq
  intro i hi'
  simp only [cmdOp, cmdWord, BitVec.getLsbD_extractLsb', BitVec.getLsbD_append]
  simp [hi']

theorem cmdArg_cmdWord (hi : BitVec 10) (len : BitVec 6) (arg : BitVec 8) (lo op : BitVec 4) :
    cmdArg (cmdWord hi len arg lo op) = arg := by
  apply BitVec.eq_of_getLsbD_eq
  intro i hi'
  simp only [cmdArg, cmdWord, BitVec.getLsbD_extractLsb', BitVec.getLsbD_append]
  have h1 : ¬ (8 + i < 4) := by omega
  have h2 : ¬ (8 + i - 4 < 4) := by omega
  have h3 : 8 + i - 4 - 4 = i := by omega
  simp [h1, h2, h3, hi']

theorem cmdLen_cmdWord (hi : BitVec 10) (len : BitVec 6) (arg : BitVec 8) (lo op : BitVec 4) :
    cmdLen (cmdWord hi len arg lo op) = len := by
  apply BitVec.eq_of_getLsbD_eq
  intro i hi'
  simp only [cmdLen, cmdWord, BitVec.getLsbD_extractLsb', BitVec.getLsbD_append]
  have h1 : ¬ (16 + i < 4) := by omega
  have h2 : ¬ (16 + i - 4 < 4) := by omega
  have h3 : ¬ (16 + i - 4 - 4 < 8) := by omega
  have h4 : 16 + i - 4 - 4 - 8 = i := by omega
  simp [h1, h2, h3, h4, hi']

/-- A word that decodes has the command's opcode, ARG and LEN in its fields. -/
theorem decodeWord_ok_fields {v : Word} {i : Instr} (h : decodeWord v = .ok i) :
    cmdOp v = opCode i.op ∧ cmdArg v = i.arg ∧ cmdLen v = i.len := by
  unfold decodeWord at h
  split at h <;> cases h <;> exact ⟨by assumption, rfl, rfl⟩

end Sys2Proof
end

