-- ==== Sys2Proof/Laws/State.lean ====
section
/-! SUPPORT. One lemma for each field of State and each update that the commands share: what the field is after it. -/

namespace Sys2Proof.Machine

/-! A refused write sets one flag (R200, R205). -/

@[simp] theorem raiseError_busy (c : ErrorCond) (s : State) : (raiseError c s).busy = s.busy := by cases c <;> rfl
@[simp] theorem raiseError_line (c : ErrorCond) (s : State) : (raiseError c s).line = s.line := by cases c <;> rfl
@[simp] theorem raiseError_curOp (c : ErrorCond) (s : State) : (raiseError c s).curOp = s.curOp := by cases c <;> rfl
@[simp] theorem raiseError_done (c : ErrorCond) (s : State) : (raiseError c s).done = s.done := by cases c <;> rfl
@[simp] theorem raiseError_rxTimeout (c : ErrorCond) (s : State) : (raiseError c s).rxTimeout = s.rxTimeout := by cases c <;> rfl
@[simp] theorem raiseError_idleTimeout (c : ErrorCond) (s : State) : (raiseError c s).idleTimeout = s.idleTimeout := by cases c <;> rfl
@[simp] theorem raiseError_padEarly (c : ErrorCond) (s : State) : (raiseError c s).padEarly = s.padEarly := by cases c <;> rfl
@[simp] theorem raiseError_phase (c : ErrorCond) (s : State) : (raiseError c s).phase = s.phase := by cases c <;> rfl
@[simp] theorem raiseError_errBusy (c : ErrorCond) (s : State) : (raiseError c s).errBusy = (s.errBusy || c == .busy) := by cases c <;> simp [raiseError]
@[simp] theorem raiseError_errOp (c : ErrorCond) (s : State) : (raiseError c s).errOp = (s.errOp || c == .op) := by cases c <;> simp [raiseError]
@[simp] theorem raiseError_errLen (c : ErrorCond) (s : State) : (raiseError c s).errLen = (s.errLen || c == .len) := by cases c <;> simp [raiseError]
@[simp] theorem raiseError_rxCount (c : ErrorCond) (s : State) : (raiseError c s).rxCount = s.rxCount := by cases c <;> rfl
@[simp] theorem raiseError_rxState (c : ErrorCond) (s : State) : (raiseError c s).rxState = s.rxState := by cases c <;> rfl
@[simp] theorem raiseError_rxBitIdx (c : ErrorCond) (s : State) : (raiseError c s).rxBitIdx = s.rxBitIdx := by cases c <;> rfl
@[simp] theorem raiseError_rxAcc (c : ErrorCond) (s : State) : (raiseError c s).rxAcc = s.rxAcc := by cases c <;> rfl
@[simp] theorem raiseError_idleCnt (c : ErrorCond) (s : State) : (raiseError c s).idleCnt = s.idleCnt := by cases c <;> rfl
@[simp] theorem raiseError_lastWidth (c : ErrorCond) (s : State) : (raiseError c s).lastWidth = s.lastWidth := by cases c <;> rfl
@[simp] theorem raiseError_lastClass (c : ErrorCond) (s : State) : (raiseError c s).lastClass = s.lastClass := by cases c <;> rfl
@[simp] theorem raiseError_txbuf (c : ErrorCond) (s : State) : (raiseError c s).txbuf = s.txbuf := by cases c <;> rfl
@[simp] theorem raiseError_rxbuf (c : ErrorCond) (s : State) : (raiseError c s).rxbuf = s.rxbuf := by cases c <;> rfl
@[simp] theorem raiseError_presc (c : ErrorCond) (s : State) : (raiseError c s).presc = s.presc := by cases c <;> rfl
@[simp] theorem raiseError_sync1 (c : ErrorCond) (s : State) : (raiseError c s).sync1 = s.sync1 := by cases c <;> rfl
@[simp] theorem raiseError_sync2 (c : ErrorCond) (s : State) : (raiseError c s).sync2 = s.sync2 := by cases c <;> rfl
@[simp] theorem raiseError_drive (c : ErrorCond) (s : State) : (raiseError c s).drive = s.drive := by cases c <;> rfl
@[simp] theorem raiseError_argL (c : ErrorCond) (s : State) : (raiseError c s).argL = s.argL := by cases c <;> rfl
@[simp] theorem raiseError_lenL (c : ErrorCond) (s : State) : (raiseError c s).lenL = s.lenL := by cases c <;> rfl
@[simp] theorem raiseError_phases (c : ErrorCond) (s : State) : (raiseError c s).phases = s.phases := by cases c <;> rfl
@[simp] theorem raiseError_k (c : ErrorCond) (s : State) : (raiseError c s).k = s.k := by cases c <;> rfl
@[simp] theorem raiseError_txPos (c : ErrorCond) (s : State) : (raiseError c s).txPos = s.txPos := by cases c <;> rfl
@[simp] theorem raiseError_txWave (c : ErrorCond) (s : State) : (raiseError c s).txWave = s.txWave := by cases c <;> rfl
@[simp] theorem raiseError_e (c : ErrorCond) (s : State) : (raiseError c s).e = s.e := by cases c <;> rfl
@[simp] theorem raiseError_rxSub (c : ErrorCond) (s : State) : (raiseError c s).rxSub = s.rxSub := by cases c <;> rfl
@[simp] theorem raiseError_rxWidth (c : ErrorCond) (s : State) : (raiseError c s).rxWidth = s.rxWidth := by cases c <;> rfl
@[simp] theorem raiseError_rxW (c : ErrorCond) (s : State) : (raiseError c s).rxW = s.rxW := by cases c <;> rfl
@[simp] theorem raiseError_rxE (c : ErrorCond) (s : State) : (raiseError c s).rxE = s.rxE := by cases c <;> rfl
@[simp] theorem raiseError_rxLen (c : ErrorCond) (s : State) : (raiseError c s).rxLen = s.rxLen := by cases c <;> rfl
@[simp] theorem raiseError_inputs (c : ErrorCond) (s : State) : (raiseError c s).inputs = s.inputs := by cases c <;> rfl
@[simp] theorem raiseError_edge (c : ErrorCond) (s : State) : (raiseError c s).edge = s.edge := by cases c <;> rfl

/-! A STATUS write (R88). -/

@[simp] theorem clearErrors_busy (v : Word) (s : State) : (clearErrors v s).busy = s.busy := rfl
@[simp] theorem clearErrors_line (v : Word) (s : State) : (clearErrors v s).line = s.line := rfl
@[simp] theorem clearErrors_curOp (v : Word) (s : State) : (clearErrors v s).curOp = s.curOp := rfl
@[simp] theorem clearErrors_done (v : Word) (s : State) : (clearErrors v s).done = s.done := rfl
@[simp] theorem clearErrors_rxTimeout (v : Word) (s : State) : (clearErrors v s).rxTimeout = s.rxTimeout := rfl
@[simp] theorem clearErrors_idleTimeout (v : Word) (s : State) : (clearErrors v s).idleTimeout = s.idleTimeout := rfl
@[simp] theorem clearErrors_padEarly (v : Word) (s : State) : (clearErrors v s).padEarly = s.padEarly := rfl
@[simp] theorem clearErrors_phase (v : Word) (s : State) : (clearErrors v s).phase = s.phase := rfl
@[simp] theorem clearErrors_errBusy (v : Word) (s : State) : (clearErrors v s).errBusy = (s.errBusy && !v.getLsbD 16) := rfl
@[simp] theorem clearErrors_errOp (v : Word) (s : State) : (clearErrors v s).errOp = (s.errOp && !v.getLsbD 17) := rfl
@[simp] theorem clearErrors_errLen (v : Word) (s : State) : (clearErrors v s).errLen = (s.errLen && !v.getLsbD 18) := rfl
@[simp] theorem clearErrors_rxCount (v : Word) (s : State) : (clearErrors v s).rxCount = s.rxCount := rfl
@[simp] theorem clearErrors_rxState (v : Word) (s : State) : (clearErrors v s).rxState = s.rxState := rfl
@[simp] theorem clearErrors_rxBitIdx (v : Word) (s : State) : (clearErrors v s).rxBitIdx = s.rxBitIdx := rfl
@[simp] theorem clearErrors_rxAcc (v : Word) (s : State) : (clearErrors v s).rxAcc = s.rxAcc := rfl
@[simp] theorem clearErrors_idleCnt (v : Word) (s : State) : (clearErrors v s).idleCnt = s.idleCnt := rfl
@[simp] theorem clearErrors_lastWidth (v : Word) (s : State) : (clearErrors v s).lastWidth = s.lastWidth := rfl
@[simp] theorem clearErrors_lastClass (v : Word) (s : State) : (clearErrors v s).lastClass = s.lastClass := rfl
@[simp] theorem clearErrors_txbuf (v : Word) (s : State) : (clearErrors v s).txbuf = s.txbuf := rfl
@[simp] theorem clearErrors_rxbuf (v : Word) (s : State) : (clearErrors v s).rxbuf = s.rxbuf := rfl
@[simp] theorem clearErrors_presc (v : Word) (s : State) : (clearErrors v s).presc = s.presc := rfl
@[simp] theorem clearErrors_sync1 (v : Word) (s : State) : (clearErrors v s).sync1 = s.sync1 := rfl
@[simp] theorem clearErrors_sync2 (v : Word) (s : State) : (clearErrors v s).sync2 = s.sync2 := rfl
@[simp] theorem clearErrors_drive (v : Word) (s : State) : (clearErrors v s).drive = s.drive := rfl
@[simp] theorem clearErrors_argL (v : Word) (s : State) : (clearErrors v s).argL = s.argL := rfl
@[simp] theorem clearErrors_lenL (v : Word) (s : State) : (clearErrors v s).lenL = s.lenL := rfl
@[simp] theorem clearErrors_phases (v : Word) (s : State) : (clearErrors v s).phases = s.phases := rfl
@[simp] theorem clearErrors_k (v : Word) (s : State) : (clearErrors v s).k = s.k := rfl
@[simp] theorem clearErrors_txPos (v : Word) (s : State) : (clearErrors v s).txPos = s.txPos := rfl
@[simp] theorem clearErrors_txWave (v : Word) (s : State) : (clearErrors v s).txWave = s.txWave := rfl
@[simp] theorem clearErrors_e (v : Word) (s : State) : (clearErrors v s).e = s.e := rfl
@[simp] theorem clearErrors_rxSub (v : Word) (s : State) : (clearErrors v s).rxSub = s.rxSub := rfl
@[simp] theorem clearErrors_rxWidth (v : Word) (s : State) : (clearErrors v s).rxWidth = s.rxWidth := rfl
@[simp] theorem clearErrors_rxW (v : Word) (s : State) : (clearErrors v s).rxW = s.rxW := rfl
@[simp] theorem clearErrors_rxE (v : Word) (s : State) : (clearErrors v s).rxE = s.rxE := rfl
@[simp] theorem clearErrors_rxLen (v : Word) (s : State) : (clearErrors v s).rxLen = s.rxLen := rfl
@[simp] theorem clearErrors_inputs (v : Word) (s : State) : (clearErrors v s).inputs = s.inputs := rfl
@[simp] theorem clearErrors_edge (v : Word) (s : State) : (clearErrors v s).edge = s.edge := rfl

/-! `finish()` (R87). -/

@[simp] theorem finish_busy (s : State) : (finish s).busy = false := rfl
@[simp] theorem finish_line (s : State) : (finish s).line = s.line := rfl
@[simp] theorem finish_curOp (s : State) : (finish s).curOp = .nop := rfl
@[simp] theorem finish_done (s : State) : (finish s).done = true := rfl
@[simp] theorem finish_rxTimeout (s : State) : (finish s).rxTimeout = s.rxTimeout := rfl
@[simp] theorem finish_idleTimeout (s : State) : (finish s).idleTimeout = s.idleTimeout := rfl
@[simp] theorem finish_padEarly (s : State) : (finish s).padEarly = s.padEarly := rfl
@[simp] theorem finish_phase (s : State) : (finish s).phase = .none := rfl
@[simp] theorem finish_errBusy (s : State) : (finish s).errBusy = s.errBusy := rfl
@[simp] theorem finish_errOp (s : State) : (finish s).errOp = s.errOp := rfl
@[simp] theorem finish_errLen (s : State) : (finish s).errLen = s.errLen := rfl
@[simp] theorem finish_rxCount (s : State) : (finish s).rxCount = s.rxCount := rfl
@[simp] theorem finish_rxState (s : State) : (finish s).rxState = s.rxState := rfl
@[simp] theorem finish_rxBitIdx (s : State) : (finish s).rxBitIdx = s.rxBitIdx := rfl
@[simp] theorem finish_rxAcc (s : State) : (finish s).rxAcc = s.rxAcc := rfl
@[simp] theorem finish_idleCnt (s : State) : (finish s).idleCnt = s.idleCnt := rfl
@[simp] theorem finish_lastWidth (s : State) : (finish s).lastWidth = s.lastWidth := rfl
@[simp] theorem finish_lastClass (s : State) : (finish s).lastClass = s.lastClass := rfl
@[simp] theorem finish_txbuf (s : State) : (finish s).txbuf = s.txbuf := rfl
@[simp] theorem finish_rxbuf (s : State) : (finish s).rxbuf = s.rxbuf := rfl
@[simp] theorem finish_presc (s : State) : (finish s).presc = s.presc := rfl
@[simp] theorem finish_sync1 (s : State) : (finish s).sync1 = s.sync1 := rfl
@[simp] theorem finish_sync2 (s : State) : (finish s).sync2 = s.sync2 := rfl
@[simp] theorem finish_drive (s : State) : (finish s).drive = s.drive := rfl
@[simp] theorem finish_argL (s : State) : (finish s).argL = s.argL := rfl
@[simp] theorem finish_lenL (s : State) : (finish s).lenL = s.lenL := rfl
@[simp] theorem finish_phases (s : State) : (finish s).phases = [] := rfl
@[simp] theorem finish_k (s : State) : (finish s).k = s.k := rfl
@[simp] theorem finish_txPos (s : State) : (finish s).txPos = s.txPos := rfl
@[simp] theorem finish_txWave (s : State) : (finish s).txWave = s.txWave := rfl
@[simp] theorem finish_e (s : State) : (finish s).e = s.e := rfl
@[simp] theorem finish_rxSub (s : State) : (finish s).rxSub = s.rxSub := rfl
@[simp] theorem finish_rxWidth (s : State) : (finish s).rxWidth = s.rxWidth := rfl
@[simp] theorem finish_rxW (s : State) : (finish s).rxW = s.rxW := rfl
@[simp] theorem finish_rxE (s : State) : (finish s).rxE = s.rxE := rfl
@[simp] theorem finish_rxLen (s : State) : (finish s).rxLen = s.rxLen := rfl
@[simp] theorem finish_inputs (s : State) : (finish s).inputs = s.inputs := rfl
@[simp] theorem finish_edge (s : State) : (finish s).edge = s.edge := rfl

/-! `start_phase(p)` (R85). -/

@[simp] theorem startPhase_busy (p : Phase) (s : State) : (startPhase p s).busy = s.busy := by cases p <;> rfl
@[simp] theorem startPhase_line (p : Phase) (s : State) : (startPhase p s).line = s.line := by cases p <;> rfl
@[simp] theorem startPhase_curOp (p : Phase) (s : State) : (startPhase p s).curOp = s.curOp := by cases p <;> rfl
@[simp] theorem startPhase_done (p : Phase) (s : State) : (startPhase p s).done = s.done := by cases p <;> rfl
@[simp] theorem startPhase_rxTimeout (p : Phase) (s : State) : (startPhase p s).rxTimeout = s.rxTimeout := by cases p <;> rfl
@[simp] theorem startPhase_idleTimeout (p : Phase) (s : State) : (startPhase p s).idleTimeout = s.idleTimeout := by cases p <;> rfl
@[simp] theorem startPhase_padEarly (p : Phase) (s : State) : (startPhase p s).padEarly = s.padEarly := by cases p <;> rfl
@[simp] theorem startPhase_phase (p : Phase) (s : State) : (startPhase p s).phase = p := by cases p <;> rfl
@[simp] theorem startPhase_errBusy (p : Phase) (s : State) : (startPhase p s).errBusy = s.errBusy := by cases p <;> rfl
@[simp] theorem startPhase_errOp (p : Phase) (s : State) : (startPhase p s).errOp = s.errOp := by cases p <;> rfl
@[simp] theorem startPhase_errLen (p : Phase) (s : State) : (startPhase p s).errLen = s.errLen := by cases p <;> rfl
@[simp] theorem startPhase_rxCount (p : Phase) (s : State) : (startPhase p s).rxCount = s.rxCount := by cases p <;> rfl
@[simp] theorem startPhase_rxState (p : Phase) (s : State) : (startPhase p s).rxState = s.rxState := by cases p <;> rfl
@[simp] theorem startPhase_rxBitIdx (p : Phase) (s : State) : (startPhase p s).rxBitIdx = s.rxBitIdx := by cases p <;> rfl
@[simp] theorem startPhase_rxAcc (p : Phase) (s : State) : (startPhase p s).rxAcc = s.rxAcc := by cases p <;> rfl
@[simp] theorem startPhase_idleCnt (p : Phase) (s : State) : (startPhase p s).idleCnt = s.idleCnt := by cases p <;> rfl
@[simp] theorem startPhase_lastWidth (p : Phase) (s : State) : (startPhase p s).lastWidth = s.lastWidth := by cases p <;> rfl
@[simp] theorem startPhase_lastClass (p : Phase) (s : State) : (startPhase p s).lastClass = s.lastClass := by cases p <;> rfl
@[simp] theorem startPhase_txbuf (p : Phase) (s : State) : (startPhase p s).txbuf = s.txbuf := by cases p <;> rfl
@[simp] theorem startPhase_rxbuf (p : Phase) (s : State) : (startPhase p s).rxbuf = s.rxbuf := by cases p <;> rfl
@[simp] theorem startPhase_presc (p : Phase) (s : State) : (startPhase p s).presc = s.presc := by cases p <;> rfl
@[simp] theorem startPhase_sync1 (p : Phase) (s : State) : (startPhase p s).sync1 = s.sync1 := by cases p <;> rfl
@[simp] theorem startPhase_sync2 (p : Phase) (s : State) : (startPhase p s).sync2 = s.sync2 := by cases p <;> rfl
@[simp] theorem startPhase_drive (p : Phase) (s : State) : (startPhase p s).drive = s.drive := by cases p <;> rfl
@[simp] theorem startPhase_argL (p : Phase) (s : State) : (startPhase p s).argL = s.argL := by cases p <;> rfl
@[simp] theorem startPhase_lenL (p : Phase) (s : State) : (startPhase p s).lenL = s.lenL := by cases p <;> rfl
@[simp] theorem startPhase_phases (p : Phase) (s : State) : (startPhase p s).phases = s.phases := by cases p <;> rfl
@[simp] theorem startPhase_k (p : Phase) (s : State) : (startPhase p s).k = 0 := by cases p <;> rfl
@[simp] theorem startPhase_txPos (p : Phase) (s : State) : (startPhase p s).txPos = if p = .tx then 0 else s.txPos := by cases p <;> rfl
@[simp] theorem startPhase_txWave (p : Phase) (s : State) : (startPhase p s).txWave = if p = .tx then waveSegs s.curOp s.argL s.lenL s.txbuf else s.txWave := by cases p <;> rfl
@[simp] theorem startPhase_e (p : Phase) (s : State) : (startPhase p s).e = if p = .tx then 0 else s.e := by cases p <;> rfl
@[simp] theorem startPhase_rxSub (p : Phase) (s : State) : (startPhase p s).rxSub = s.rxSub := by cases p <;> rfl
@[simp] theorem startPhase_rxWidth (p : Phase) (s : State) : (startPhase p s).rxWidth = s.rxWidth := by cases p <;> rfl
@[simp] theorem startPhase_rxW (p : Phase) (s : State) : (startPhase p s).rxW = s.rxW := by cases p <;> rfl
@[simp] theorem startPhase_rxE (p : Phase) (s : State) : (startPhase p s).rxE = s.rxE := by cases p <;> rfl
@[simp] theorem startPhase_rxLen (p : Phase) (s : State) : (startPhase p s).rxLen = s.rxLen := by cases p <;> rfl
@[simp] theorem startPhase_inputs (p : Phase) (s : State) : (startPhase p s).inputs = s.inputs := by cases p <;> rfl
@[simp] theorem startPhase_edge (p : Phase) (s : State) : (startPhase p s).edge = s.edge := by cases p <;> rfl

/-! What acceptance sets for every command (R82). -/

@[simp] theorem latchCommand_busy (op : Op) (arg : BitVec 8) (len : BitVec 6) (s : State) : (latchCommand op arg len s).busy = true := rfl
@[simp] theorem latchCommand_line (op : Op) (arg : BitVec 8) (len : BitVec 6) (s : State) : (latchCommand op arg len s).line = s.line := rfl
@[simp] theorem latchCommand_curOp (op : Op) (arg : BitVec 8) (len : BitVec 6) (s : State) : (latchCommand op arg len s).curOp = op := rfl
@[simp] theorem latchCommand_done (op : Op) (arg : BitVec 8) (len : BitVec 6) (s : State) : (latchCommand op arg len s).done = false := rfl
@[simp] theorem latchCommand_rxTimeout (op : Op) (arg : BitVec 8) (len : BitVec 6) (s : State) : (latchCommand op arg len s).rxTimeout = false := rfl
@[simp] theorem latchCommand_idleTimeout (op : Op) (arg : BitVec 8) (len : BitVec 6) (s : State) : (latchCommand op arg len s).idleTimeout = false := rfl
@[simp] theorem latchCommand_padEarly (op : Op) (arg : BitVec 8) (len : BitVec 6) (s : State) : (latchCommand op arg len s).padEarly = false := rfl
@[simp] theorem latchCommand_phase (op : Op) (arg : BitVec 8) (len : BitVec 6) (s : State) : (latchCommand op arg len s).phase = s.phase := rfl
@[simp] theorem latchCommand_errBusy (op : Op) (arg : BitVec 8) (len : BitVec 6) (s : State) : (latchCommand op arg len s).errBusy = s.errBusy := rfl
@[simp] theorem latchCommand_errOp (op : Op) (arg : BitVec 8) (len : BitVec 6) (s : State) : (latchCommand op arg len s).errOp = s.errOp := rfl
@[simp] theorem latchCommand_errLen (op : Op) (arg : BitVec 8) (len : BitVec 6) (s : State) : (latchCommand op arg len s).errLen = s.errLen := rfl
@[simp] theorem latchCommand_rxCount (op : Op) (arg : BitVec 8) (len : BitVec 6) (s : State) : (latchCommand op arg len s).rxCount = s.rxCount := rfl
@[simp] theorem latchCommand_rxState (op : Op) (arg : BitVec 8) (len : BitVec 6) (s : State) : (latchCommand op arg len s).rxState = s.rxState := rfl
@[simp] theorem latchCommand_rxBitIdx (op : Op) (arg : BitVec 8) (len : BitVec 6) (s : State) : (latchCommand op arg len s).rxBitIdx = s.rxBitIdx := rfl
@[simp] theorem latchCommand_rxAcc (op : Op) (arg : BitVec 8) (len : BitVec 6) (s : State) : (latchCommand op arg len s).rxAcc = s.rxAcc := rfl
@[simp] theorem latchCommand_idleCnt (op : Op) (arg : BitVec 8) (len : BitVec 6) (s : State) : (latchCommand op arg len s).idleCnt = s.idleCnt := rfl
@[simp] theorem latchCommand_lastWidth (op : Op) (arg : BitVec 8) (len : BitVec 6) (s : State) : (latchCommand op arg len s).lastWidth = s.lastWidth := rfl
@[simp] theorem latchCommand_lastClass (op : Op) (arg : BitVec 8) (len : BitVec 6) (s : State) : (latchCommand op arg len s).lastClass = s.lastClass := rfl
@[simp] theorem latchCommand_txbuf (op : Op) (arg : BitVec 8) (len : BitVec 6) (s : State) : (latchCommand op arg len s).txbuf = s.txbuf := rfl
@[simp] theorem latchCommand_rxbuf (op : Op) (arg : BitVec 8) (len : BitVec 6) (s : State) : (latchCommand op arg len s).rxbuf = s.rxbuf := rfl
@[simp] theorem latchCommand_presc (op : Op) (arg : BitVec 8) (len : BitVec 6) (s : State) : (latchCommand op arg len s).presc = s.presc := rfl
@[simp] theorem latchCommand_sync1 (op : Op) (arg : BitVec 8) (len : BitVec 6) (s : State) : (latchCommand op arg len s).sync1 = s.sync1 := rfl
@[simp] theorem latchCommand_sync2 (op : Op) (arg : BitVec 8) (len : BitVec 6) (s : State) : (latchCommand op arg len s).sync2 = s.sync2 := rfl
@[simp] theorem latchCommand_drive (op : Op) (arg : BitVec 8) (len : BitVec 6) (s : State) : (latchCommand op arg len s).drive = s.drive := rfl
@[simp] theorem latchCommand_argL (op : Op) (arg : BitVec 8) (len : BitVec 6) (s : State) : (latchCommand op arg len s).argL = arg := rfl
@[simp] theorem latchCommand_lenL (op : Op) (arg : BitVec 8) (len : BitVec 6) (s : State) : (latchCommand op arg len s).lenL = len := rfl
@[simp] theorem latchCommand_phases (op : Op) (arg : BitVec 8) (len : BitVec 6) (s : State) : (latchCommand op arg len s).phases = phaseList op := rfl
@[simp] theorem latchCommand_k (op : Op) (arg : BitVec 8) (len : BitVec 6) (s : State) : (latchCommand op arg len s).k = s.k := rfl
@[simp] theorem latchCommand_txPos (op : Op) (arg : BitVec 8) (len : BitVec 6) (s : State) : (latchCommand op arg len s).txPos = s.txPos := rfl
@[simp] theorem latchCommand_txWave (op : Op) (arg : BitVec 8) (len : BitVec 6) (s : State) : (latchCommand op arg len s).txWave = s.txWave := rfl
@[simp] theorem latchCommand_e (op : Op) (arg : BitVec 8) (len : BitVec 6) (s : State) : (latchCommand op arg len s).e = s.e := rfl
@[simp] theorem latchCommand_rxSub (op : Op) (arg : BitVec 8) (len : BitVec 6) (s : State) : (latchCommand op arg len s).rxSub = s.rxSub := rfl
@[simp] theorem latchCommand_rxWidth (op : Op) (arg : BitVec 8) (len : BitVec 6) (s : State) : (latchCommand op arg len s).rxWidth = s.rxWidth := rfl
@[simp] theorem latchCommand_rxW (op : Op) (arg : BitVec 8) (len : BitVec 6) (s : State) : (latchCommand op arg len s).rxW = s.rxW := rfl
@[simp] theorem latchCommand_rxE (op : Op) (arg : BitVec 8) (len : BitVec 6) (s : State) : (latchCommand op arg len s).rxE = s.rxE := rfl
@[simp] theorem latchCommand_rxLen (op : Op) (arg : BitVec 8) (len : BitVec 6) (s : State) : (latchCommand op arg len s).rxLen = s.rxLen := rfl
@[simp] theorem latchCommand_inputs (op : Op) (arg : BitVec 8) (len : BitVec 6) (s : State) : (latchCommand op arg len s).inputs = s.inputs := rfl
@[simp] theorem latchCommand_edge (op : Op) (arg : BitVec 8) (len : BitVec 6) (s : State) : (latchCommand op arg len s).edge = s.edge := rfl

/-! What acceptance of RECEIVE clears (R82). -/

@[simp] theorem clearReceiver_busy (len : BitVec 6) (s : State) : (clearReceiver len s).busy = s.busy := rfl
@[simp] theorem clearReceiver_line (len : BitVec 6) (s : State) : (clearReceiver len s).line = s.line := rfl
@[simp] theorem clearReceiver_curOp (len : BitVec 6) (s : State) : (clearReceiver len s).curOp = s.curOp := rfl
@[simp] theorem clearReceiver_done (len : BitVec 6) (s : State) : (clearReceiver len s).done = s.done := rfl
@[simp] theorem clearReceiver_rxTimeout (len : BitVec 6) (s : State) : (clearReceiver len s).rxTimeout = s.rxTimeout := rfl
@[simp] theorem clearReceiver_idleTimeout (len : BitVec 6) (s : State) : (clearReceiver len s).idleTimeout = s.idleTimeout := rfl
@[simp] theorem clearReceiver_padEarly (len : BitVec 6) (s : State) : (clearReceiver len s).padEarly = s.padEarly := rfl
@[simp] theorem clearReceiver_phase (len : BitVec 6) (s : State) : (clearReceiver len s).phase = s.phase := rfl
@[simp] theorem clearReceiver_errBusy (len : BitVec 6) (s : State) : (clearReceiver len s).errBusy = s.errBusy := rfl
@[simp] theorem clearReceiver_errOp (len : BitVec 6) (s : State) : (clearReceiver len s).errOp = s.errOp := rfl
@[simp] theorem clearReceiver_errLen (len : BitVec 6) (s : State) : (clearReceiver len s).errLen = s.errLen := rfl
@[simp] theorem clearReceiver_rxCount (len : BitVec 6) (s : State) : (clearReceiver len s).rxCount = 0#5 := rfl
@[simp] theorem clearReceiver_rxState (len : BitVec 6) (s : State) : (clearReceiver len s).rxState = if len = 0#6 then .done else .waitSync := rfl
@[simp] theorem clearReceiver_rxBitIdx (len : BitVec 6) (s : State) : (clearReceiver len s).rxBitIdx = 0#3 := rfl
@[simp] theorem clearReceiver_rxAcc (len : BitVec 6) (s : State) : (clearReceiver len s).rxAcc = 0x00#8 := rfl
@[simp] theorem clearReceiver_idleCnt (len : BitVec 6) (s : State) : (clearReceiver len s).idleCnt = s.idleCnt := rfl
@[simp] theorem clearReceiver_lastWidth (len : BitVec 6) (s : State) : (clearReceiver len s).lastWidth = 0#16 := rfl
@[simp] theorem clearReceiver_lastClass (len : BitVec 6) (s : State) : (clearReceiver len s).lastClass = .none := rfl
@[simp] theorem clearReceiver_txbuf (len : BitVec 6) (s : State) : (clearReceiver len s).txbuf = s.txbuf := rfl
@[simp] theorem clearReceiver_rxbuf (len : BitVec 6) (s : State) : (clearReceiver len s).rxbuf = Vector.replicate 16 0x00#8 := rfl
@[simp] theorem clearReceiver_presc (len : BitVec 6) (s : State) : (clearReceiver len s).presc = s.presc := rfl
@[simp] theorem clearReceiver_sync1 (len : BitVec 6) (s : State) : (clearReceiver len s).sync1 = s.sync1 := rfl
@[simp] theorem clearReceiver_sync2 (len : BitVec 6) (s : State) : (clearReceiver len s).sync2 = s.sync2 := rfl
@[simp] theorem clearReceiver_drive (len : BitVec 6) (s : State) : (clearReceiver len s).drive = s.drive := rfl
@[simp] theorem clearReceiver_argL (len : BitVec 6) (s : State) : (clearReceiver len s).argL = s.argL := rfl
@[simp] theorem clearReceiver_lenL (len : BitVec 6) (s : State) : (clearReceiver len s).lenL = s.lenL := rfl
@[simp] theorem clearReceiver_phases (len : BitVec 6) (s : State) : (clearReceiver len s).phases = s.phases := rfl
@[simp] theorem clearReceiver_k (len : BitVec 6) (s : State) : (clearReceiver len s).k = s.k := rfl
@[simp] theorem clearReceiver_txPos (len : BitVec 6) (s : State) : (clearReceiver len s).txPos = s.txPos := rfl
@[simp] theorem clearReceiver_txWave (len : BitVec 6) (s : State) : (clearReceiver len s).txWave = s.txWave := rfl
@[simp] theorem clearReceiver_e (len : BitVec 6) (s : State) : (clearReceiver len s).e = s.e := rfl
@[simp] theorem clearReceiver_rxSub (len : BitVec 6) (s : State) : (clearReceiver len s).rxSub = .waitLow := rfl
@[simp] theorem clearReceiver_rxWidth (len : BitVec 6) (s : State) : (clearReceiver len s).rxWidth = 0 := rfl
@[simp] theorem clearReceiver_rxW (len : BitVec 6) (s : State) : (clearReceiver len s).rxW = 0 := rfl
@[simp] theorem clearReceiver_rxE (len : BitVec 6) (s : State) : (clearReceiver len s).rxE = 0 := rfl
@[simp] theorem clearReceiver_rxLen (len : BitVec 6) (s : State) : (clearReceiver len s).rxLen = len.setWidth 5 := rfl
@[simp] theorem clearReceiver_inputs (len : BitVec 6) (s : State) : (clearReceiver len s).inputs = s.inputs := rfl
@[simp] theorem clearReceiver_edge (len : BitVec 6) (s : State) : (clearReceiver len s).edge = s.edge := rfl

/-! The first updates of a tick (R16, R100). -/

@[simp] theorem monitorLine_busy (L : Level) (s : State) : (monitorLine L s).busy = s.busy := by cases L <;> rfl
@[simp] theorem monitorLine_line (L : Level) (s : State) : (monitorLine L s).line = decide (L = .asserted) := by cases L <;> rfl
@[simp] theorem monitorLine_curOp (L : Level) (s : State) : (monitorLine L s).curOp = s.curOp := by cases L <;> rfl
@[simp] theorem monitorLine_done (L : Level) (s : State) : (monitorLine L s).done = s.done := by cases L <;> rfl
@[simp] theorem monitorLine_rxTimeout (L : Level) (s : State) : (monitorLine L s).rxTimeout = s.rxTimeout := by cases L <;> rfl
@[simp] theorem monitorLine_idleTimeout (L : Level) (s : State) : (monitorLine L s).idleTimeout = s.idleTimeout := by cases L <;> rfl
@[simp] theorem monitorLine_padEarly (L : Level) (s : State) : (monitorLine L s).padEarly = s.padEarly := by cases L <;> rfl
@[simp] theorem monitorLine_phase (L : Level) (s : State) : (monitorLine L s).phase = s.phase := by cases L <;> rfl
@[simp] theorem monitorLine_errBusy (L : Level) (s : State) : (monitorLine L s).errBusy = s.errBusy := by cases L <;> rfl
@[simp] theorem monitorLine_errOp (L : Level) (s : State) : (monitorLine L s).errOp = s.errOp := by cases L <;> rfl
@[simp] theorem monitorLine_errLen (L : Level) (s : State) : (monitorLine L s).errLen = s.errLen := by cases L <;> rfl
@[simp] theorem monitorLine_rxCount (L : Level) (s : State) : (monitorLine L s).rxCount = s.rxCount := by cases L <;> rfl
@[simp] theorem monitorLine_rxState (L : Level) (s : State) : (monitorLine L s).rxState = s.rxState := by cases L <;> rfl
@[simp] theorem monitorLine_rxBitIdx (L : Level) (s : State) : (monitorLine L s).rxBitIdx = s.rxBitIdx := by cases L <;> rfl
@[simp] theorem monitorLine_rxAcc (L : Level) (s : State) : (monitorLine L s).rxAcc = s.rxAcc := by cases L <;> rfl
@[simp] theorem monitorLine_idleCnt (L : Level) (s : State) : (monitorLine L s).idleCnt = if L = .asserted then 0#32 else sat32 (s.idleCnt.toNat + 1) := by cases L <;> rfl
@[simp] theorem monitorLine_lastWidth (L : Level) (s : State) : (monitorLine L s).lastWidth = s.lastWidth := by cases L <;> rfl
@[simp] theorem monitorLine_lastClass (L : Level) (s : State) : (monitorLine L s).lastClass = s.lastClass := by cases L <;> rfl
@[simp] theorem monitorLine_txbuf (L : Level) (s : State) : (monitorLine L s).txbuf = s.txbuf := by cases L <;> rfl
@[simp] theorem monitorLine_rxbuf (L : Level) (s : State) : (monitorLine L s).rxbuf = s.rxbuf := by cases L <;> rfl
@[simp] theorem monitorLine_presc (L : Level) (s : State) : (monitorLine L s).presc = s.presc := by cases L <;> rfl
@[simp] theorem monitorLine_sync1 (L : Level) (s : State) : (monitorLine L s).sync1 = s.sync1 := by cases L <;> rfl
@[simp] theorem monitorLine_sync2 (L : Level) (s : State) : (monitorLine L s).sync2 = s.sync2 := by cases L <;> rfl
@[simp] theorem monitorLine_drive (L : Level) (s : State) : (monitorLine L s).drive = s.drive := by cases L <;> rfl
@[simp] theorem monitorLine_argL (L : Level) (s : State) : (monitorLine L s).argL = s.argL := by cases L <;> rfl
@[simp] theorem monitorLine_lenL (L : Level) (s : State) : (monitorLine L s).lenL = s.lenL := by cases L <;> rfl
@[simp] theorem monitorLine_phases (L : Level) (s : State) : (monitorLine L s).phases = s.phases := by cases L <;> rfl
@[simp] theorem monitorLine_k (L : Level) (s : State) : (monitorLine L s).k = s.k := by cases L <;> rfl
@[simp] theorem monitorLine_txPos (L : Level) (s : State) : (monitorLine L s).txPos = s.txPos := by cases L <;> rfl
@[simp] theorem monitorLine_txWave (L : Level) (s : State) : (monitorLine L s).txWave = s.txWave := by cases L <;> rfl
@[simp] theorem monitorLine_e (L : Level) (s : State) : (monitorLine L s).e = s.e := by cases L <;> rfl
@[simp] theorem monitorLine_rxSub (L : Level) (s : State) : (monitorLine L s).rxSub = s.rxSub := by cases L <;> rfl
@[simp] theorem monitorLine_rxWidth (L : Level) (s : State) : (monitorLine L s).rxWidth = s.rxWidth := by cases L <;> rfl
@[simp] theorem monitorLine_rxW (L : Level) (s : State) : (monitorLine L s).rxW = s.rxW := by cases L <;> rfl
@[simp] theorem monitorLine_rxE (L : Level) (s : State) : (monitorLine L s).rxE = s.rxE := by cases L <;> rfl
@[simp] theorem monitorLine_rxLen (L : Level) (s : State) : (monitorLine L s).rxLen = s.rxLen := by cases L <;> rfl
@[simp] theorem monitorLine_inputs (L : Level) (s : State) : (monitorLine L s).inputs = s.inputs := by cases L <;> rfl
@[simp] theorem monitorLine_edge (L : Level) (s : State) : (monitorLine L s).edge = s.edge := by cases L <;> rfl

/-! The edge's port values are used up (assumption log 2). -/

@[simp] theorem passEdge_busy (s : State) : (passEdge s).busy = s.busy := rfl
@[simp] theorem passEdge_line (s : State) : (passEdge s).line = s.line := rfl
@[simp] theorem passEdge_curOp (s : State) : (passEdge s).curOp = s.curOp := rfl
@[simp] theorem passEdge_done (s : State) : (passEdge s).done = s.done := rfl
@[simp] theorem passEdge_rxTimeout (s : State) : (passEdge s).rxTimeout = s.rxTimeout := rfl
@[simp] theorem passEdge_idleTimeout (s : State) : (passEdge s).idleTimeout = s.idleTimeout := rfl
@[simp] theorem passEdge_padEarly (s : State) : (passEdge s).padEarly = s.padEarly := rfl
@[simp] theorem passEdge_phase (s : State) : (passEdge s).phase = s.phase := rfl
@[simp] theorem passEdge_errBusy (s : State) : (passEdge s).errBusy = s.errBusy := rfl
@[simp] theorem passEdge_errOp (s : State) : (passEdge s).errOp = s.errOp := rfl
@[simp] theorem passEdge_errLen (s : State) : (passEdge s).errLen = s.errLen := rfl
@[simp] theorem passEdge_rxCount (s : State) : (passEdge s).rxCount = s.rxCount := rfl
@[simp] theorem passEdge_rxState (s : State) : (passEdge s).rxState = s.rxState := rfl
@[simp] theorem passEdge_rxBitIdx (s : State) : (passEdge s).rxBitIdx = s.rxBitIdx := rfl
@[simp] theorem passEdge_rxAcc (s : State) : (passEdge s).rxAcc = s.rxAcc := rfl
@[simp] theorem passEdge_idleCnt (s : State) : (passEdge s).idleCnt = s.idleCnt := rfl
@[simp] theorem passEdge_lastWidth (s : State) : (passEdge s).lastWidth = s.lastWidth := rfl
@[simp] theorem passEdge_lastClass (s : State) : (passEdge s).lastClass = s.lastClass := rfl
@[simp] theorem passEdge_txbuf (s : State) : (passEdge s).txbuf = s.txbuf := rfl
@[simp] theorem passEdge_rxbuf (s : State) : (passEdge s).rxbuf = s.rxbuf := rfl
@[simp] theorem passEdge_presc (s : State) : (passEdge s).presc = s.presc := rfl
@[simp] theorem passEdge_sync1 (s : State) : (passEdge s).sync1 = s.sync1 := rfl
@[simp] theorem passEdge_sync2 (s : State) : (passEdge s).sync2 = s.sync2 := rfl
@[simp] theorem passEdge_drive (s : State) : (passEdge s).drive = s.drive := rfl
@[simp] theorem passEdge_argL (s : State) : (passEdge s).argL = s.argL := rfl
@[simp] theorem passEdge_lenL (s : State) : (passEdge s).lenL = s.lenL := rfl
@[simp] theorem passEdge_phases (s : State) : (passEdge s).phases = s.phases := rfl
@[simp] theorem passEdge_k (s : State) : (passEdge s).k = s.k := rfl
@[simp] theorem passEdge_txPos (s : State) : (passEdge s).txPos = s.txPos := rfl
@[simp] theorem passEdge_txWave (s : State) : (passEdge s).txWave = s.txWave := rfl
@[simp] theorem passEdge_e (s : State) : (passEdge s).e = s.e := rfl
@[simp] theorem passEdge_rxSub (s : State) : (passEdge s).rxSub = s.rxSub := rfl
@[simp] theorem passEdge_rxWidth (s : State) : (passEdge s).rxWidth = s.rxWidth := rfl
@[simp] theorem passEdge_rxW (s : State) : (passEdge s).rxW = s.rxW := rfl
@[simp] theorem passEdge_rxE (s : State) : (passEdge s).rxE = s.rxE := rfl
@[simp] theorem passEdge_rxLen (s : State) : (passEdge s).rxLen = s.rxLen := rfl
@[simp] theorem passEdge_inputs (s : State) : (passEdge s).inputs = s.inputs.tail := rfl
@[simp] theorem passEdge_edge (s : State) : (passEdge s).edge = s.edge + 1 := rfl

end Sys2Proof.Machine
end

