-- ==== Sys2Proof/Laws/Ops.lean ====
section
/-! SUPPORT. One lemma for each shared operation, saying once everything it can do, for proofs to cite instead of
unfolding the operation. -/

namespace Sys2Proof.Machine

/-- `tickDiv` is CLK_HZ / 1 000 000 (R6, R12). -/
theorem tickDiv_eq_clkHz_div (P : Config.Params) : tickDiv P = clkHz P / 1000000 := by
  simp [tickDiv, clkHz]

/-- TICK_DIV is at least 2 (R6). -/
theorem two_le_tickDiv (P : Config.Params) : 2 ≤ tickDiv P := by simp [tickDiv]

/-- `complete_phase()` finishes, or starts the next phase of the list (R86). -/
theorem completePhase_cases (s : State) :
    (s.phases.tail = [] ∧ completePhase s = finish s) ∨
    (∃ p ps, s.phases.tail = p :: ps ∧ completePhase s = startPhase p { s with phases := p :: ps }) := by
  rcases h : s.phases.tail with _ | ⟨p, ps⟩
  · exact .inl ⟨rfl, by simp [completePhase, nextPhase, h, finish]⟩
  · exact .inr ⟨p, ps, rfl, by simp [completePhase, nextPhase, h]⟩

/-- Acceptance of a command other than RECEIVE (R82). -/
theorem accept_of_ne_receive {op : Op} (arg : BitVec 8) (len : BitVec 6) (s : State) (h : op ≠ .receive) :
    accept op arg len s = nextPhase (latchCommand op arg len s) := by
  simp [accept, h]

/-- Acceptance of RECEIVE (R82). -/
theorem accept_receive (arg : BitVec 8) (len : BitVec 6) (s : State) :
    accept .receive arg len s = nextPhase (clearReceiver len (latchCommand .receive arg len s)) := by
  simp [accept]

/-- LEN is legal for TX_FRAME in 1..32 (R67). -/
theorem legalLen_txFrame (len : BitVec 6) : legalLen .txFrame len = true ↔ 1 ≤ len.toNat ∧ len.toNat ≤ 32 := by
  simp only [legalLen, decide_eq_true_eq]

/-- LEN is legal for SEND in 2..4 (R67). -/
theorem legalLen_send (len : BitVec 6) : legalLen .send len = true ↔ 2 ≤ len.toNat ∧ len.toNat ≤ 4 := by
  simp only [legalLen, decide_eq_true_eq]

/-- LEN is legal for RECEIVE in 0..16 (R67). -/
theorem legalLen_receive (len : BitVec 6) : legalLen .receive len = true ↔ len.toNat ≤ 16 := by
  simp only [legalLen, decide_eq_true_eq]

/-- The SYNC window is 2000..2880 (R161). -/
theorem inWindow_sync (w : Nat) : inWindow syncMarkUs w = true ↔ 2000 ≤ w ∧ w ≤ 2880 := by
  simp only [inWindow, decide_eq_true_eq]; exact Iff.rfl

/-- The ONE window is 1000..1440 (R161). -/
theorem inWindow_one (w : Nat) : inWindow oneMarkUs w = true ↔ 1000 ≤ w ∧ w ≤ 1440 := by
  simp only [inWindow, decide_eq_true_eq]; exact Iff.rfl

/-- The ZERO window is 500..720 (R161). -/
theorem inWindow_zero (w : Nat) : inWindow zeroMarkUs w = true ↔ 500 ≤ w ∧ w ≤ 720 := by
  simp only [inWindow, decide_eq_true_eq]; exact Iff.rfl

/-- A CMD write of a command is dropped as busy, dropped for its LEN, or accepted (R80). -/
theorem submit_cases (op : Op) (arg : BitVec 8) (len : BitVec 6) (s : State) :
    (s.busy = true ∧ submit op arg len s = raiseError .busy s) ∨
    (s.busy = false ∧ legalLen op len = false ∧ submit op arg len s = raiseError .len s) ∨
    (s.busy = false ∧ legalLen op len = true ∧ submit op arg len s = accept op arg len s) := by
  cases hb : s.busy <;> cases hl : legalLen op len <;> simp [submit, hb, hl]

/-- A CMD write of a reserved opcode is dropped as busy or as reserved (R80). -/
theorem submitReserved_cases (s : State) :
    (s.busy = true ∧ submitReserved s = raiseError .busy s) ∨
    (s.busy = false ∧ submitReserved s = raiseError .op s) := by
  cases hb : s.busy <;> simp [submitReserved, hb]

/-- An IDLE tick counts, ends the phase as idle, or ends it by the total timeout (R102). -/
theorem idleStep_cases (P : Config.Params) (s : State) :
    (idleStep P s = { s with k := s.k + 1 } ∧
      (s.k % P.idlePollUs ≠ 0 ∨ (s.idleCnt.toNat < P.lineReadyUs ∧ s.k + 1 < P.idleTotalUs))) ∨
    (s.k % P.idlePollUs = 0 ∧ P.lineReadyUs ≤ s.idleCnt.toNat ∧
      idleStep P s = completePhase { s with k := s.k + 1 }) ∨
    (s.k % P.idlePollUs = 0 ∧ s.idleCnt.toNat < P.lineReadyUs ∧ P.idleTotalUs ≤ s.k + 1 ∧
      idleStep P s = completePhase { s with k := s.k + 1, idleTimeout := true }) := by
  by_cases hp : s.k % P.idlePollUs = 0
  · by_cases hi : P.lineReadyUs ≤ s.idleCnt.toNat
    · exact .inr (.inl ⟨hp, hi, by simp [idleStep, lineIdle, hp, hi]⟩)
    · by_cases ht : P.idleTotalUs ≤ s.k + 1
      · exact .inr (.inr ⟨hp, by omega, ht, by simp [idleStep, lineIdle, hp, hi, ht]⟩)
      · exact .inl ⟨by simp [idleStep, lineIdle, hp, hi, ht], .inr ⟨by omega, by omega⟩⟩
  · exact .inl ⟨by simp [idleStep, hp], .inl hp⟩

/-- SEND's last TX tick finishes, stops early, or enters the PAD phase (R142). -/
theorem sendTxEnd_cases (P : Config.Params) (L : Level) (s : State) :
    (P.wordGapUs ≤ s.e ∧ sendTxEnd P L s = finish s) ∨
    (s.e < P.wordGapUs ∧ L = .asserted ∧ sendTxEnd P L s = finish { s with padEarly := true }) ∨
    (s.e < P.wordGapUs ∧ L = .released ∧ sendTxEnd P L s = completePhase s) := by
  by_cases hg : P.wordGapUs ≤ s.e
  · exact .inl ⟨hg, by simp [sendTxEnd, hg]⟩
  · cases L
    · exact .inr (.inl ⟨by omega, rfl, by simp [sendTxEnd, hg]⟩)
    · exact .inr (.inr ⟨by omega, rfl, by simp [sendTxEnd, hg]⟩)

/-- A PAD tick counts, reaches the word gap at a checkpoint, or stops early at one (R143). -/
theorem padStep_cases (P : Config.Params) (L : Level) (s : State) :
    (padStep P L s = { s with k := s.k + 1, e := s.e + 1 } ∧
      ((s.k + 1) % P.idlePollUs ≠ 0 ∨ (s.e + 1 < P.wordGapUs ∧ L = .released))) ∨
    ((s.k + 1) % P.idlePollUs = 0 ∧ P.wordGapUs ≤ s.e + 1 ∧
      padStep P L s = completePhase { s with k := s.k + 1, e := s.e + 1 }) ∨
    ((s.k + 1) % P.idlePollUs = 0 ∧ s.e + 1 < P.wordGapUs ∧ L = .asserted ∧
      padStep P L s = completePhase { s with k := s.k + 1, e := s.e + 1, padEarly := true }) := by
  by_cases hp : (s.k + 1) % P.idlePollUs = 0
  · by_cases hg : P.wordGapUs ≤ s.e + 1
    · exact .inr (.inl ⟨hp, hg, by simp [padStep, hp, hg]⟩)
    · cases L
      · exact .inr (.inr ⟨hp, by omega, rfl, by simp [padStep, hp, hg]⟩)
      · exact .inl ⟨by simp [padStep, hp, hg], .inr ⟨by omega, rfl⟩⟩
  · exact .inl ⟨by simp [padStep, hp], .inl hp⟩

/-- A TX tick goes on, ends a SEND's frame, or completes the phase of another command (R121). -/
theorem txStep_cases (P : Config.Params) (L : Level) (s : State) :
    (s.txPos + 1 ≠ waveLength s.txWave ∧ txStep P L s = { s with txPos := s.txPos + 1, e := s.e + 1 }) ∨
    (s.txPos + 1 = waveLength s.txWave ∧ s.curOp = .send ∧
      txStep P L s = sendTxEnd P L { s with txPos := s.txPos + 1, e := s.e + 1 }) ∨
    (s.txPos + 1 = waveLength s.txWave ∧ s.curOp ≠ .send ∧
      txStep P L s = completePhase { s with txPos := s.txPos + 1, e := s.e + 1 }) := by
  by_cases hw : s.txPos + 1 = waveLength s.txWave
  · by_cases ho : s.curOp = .send
    · exact .inr (.inl ⟨hw, ho, by simp [txStep, hw, ho]⟩)
    · exact .inr (.inr ⟨hw, ho, by simp [txStep, hw, ho]⟩)
  · exact .inl ⟨hw, by simp [txStep, hw]⟩

/-- A pulse completes exactly at a released sample in IN_PULSE, with the width counted (R162). -/
theorem pulseWidth_eq_some {L : Level} {s : State} {w : Nat} :
    pulseWidth L s = some w ↔ s.rxSub = .inPulse ∧ L = .released ∧ w = s.rxWidth := by
  cases h : s.rxSub <;> cases L <;> simp [pulseWidth, h, eq_comm]

/-- `measure(L)` writes RX_SUB, RX_WIDTH and RX_W, nothing else (R162). -/
theorem measurePulse_eq (L : Level) (s : State) :
    measurePulse L s = { s with
      rxSub := (measurePulse L s).rxSub, rxWidth := (measurePulse L s).rxWidth, rxW := (measurePulse L s).rxW } := by
  cases s with | mk => rename_i sub _ _ _ _ _ _; cases sub <;> cases L <;> rfl

/-- `window_timeout(L)` writes RX_SUB and RX_W, nothing else (R163). -/
theorem windowTimeout_eq (L : Level) (s : State) :
    windowTimeout L s = { s with rxSub := if L = .asserted then .waitLow else .waitEdge, rxW := 0 } := by
  cases L <;> rfl

/-- A delivered pulse writes RXPULSE, RXSTAT and RXBUF, nothing else (R164–R166, R169). -/
theorem deliverPulse_eq (w : Nat) (s : State) :
    deliverPulse w s = { s with
      lastWidth := BitVec.ofNat 16 w, lastClass := classify w
      rxState := (deliverPulse w s).rxState, rxBitIdx := (deliverPulse w s).rxBitIdx
      rxAcc := (deliverPulse w s).rxAcc, rxCount := (deliverPulse w s).rxCount
      rxbuf := (deliverPulse w s).rxbuf } := by
  cases h : s.rxState
  · by_cases hc : classify w = .sync <;> simp [deliverPulse, deliverWaitSync, recordPulse, h, hc]
  · by_cases hc : s.rxBitIdx.toNat + 1 = 8 <;>
      simp [deliverPulse, deliverAccumulate, appendByte, recordPulse, h, hc]
  · simp [deliverPulse, recordPulse, h]

/-- The RX step before its end test: a pulse is delivered, the window times out, or the receiver only measures (R168).
-/
theorem rxMeasure_cases (L : Level) (s : State) :
    let s1 := { s with rxE := s.rxE + 1, rxW := s.rxW + 1 }
    (s.rxSub = .inPulse ∧ L = .released ∧ rxMeasure L s = deliverPulse s.rxWidth (measurePulse L s1)) ∨
    (pulseWidth L s = none ∧ 55000 ≤ (measurePulse L s1).rxW ∧
      rxMeasure L s = windowTimeout L (measurePulse L s1)) ∨
    (pulseWidth L s = none ∧ (measurePulse L s1).rxW < 55000 ∧ rxMeasure L s = measurePulse L s1) := by
  have hw : pulseWidth L { s with rxE := s.rxE + 1, rxW := s.rxW + 1 } = pulseWidth L s := rfl
  rcases h : pulseWidth L s with _ | w
  · by_cases ht : 55000 ≤ (measurePulse L { s with rxE := s.rxE + 1, rxW := s.rxW + 1 }).rxW
    · exact .inr (.inl ⟨rfl, ht, by simp [rxMeasure, hw, h, rxPulseTimeoutUs, ht]⟩)
    · exact .inr (.inr ⟨rfl, by omega, by simp [rxMeasure, hw, h, rxPulseTimeoutUs, ht]⟩)
  · obtain ⟨h1, h2, rfl⟩ := pulseWidth_eq_some.mp h
    exact .inl ⟨h1, h2, by simp [rxMeasure, hw, h]⟩

/-- An RX tick ends by Done, by the overall timeout, or not (R167). -/
theorem rxEnd_cases (s : State) :
    (s.rxState = .done ∧ rxEnd s = finish s) ∨
    (s.rxState ≠ .done ∧ 60000 ≤ s.rxE ∧ rxEnd s = finish { s with rxTimeout := true }) ∨
    (s.rxState ≠ .done ∧ s.rxE < 60000 ∧ rxEnd s = s) := by
  by_cases hd : s.rxState = .done
  · exact .inl ⟨hd, by simp [rxEnd, hd]⟩
  · by_cases ht : 60000 ≤ s.rxE
    · exact .inr (.inl ⟨hd, ht, by simp [rxEnd, hd, rxTimeoutUs, ht]⟩)
    · exact .inr (.inr ⟨hd, by omega, by simp [rxEnd, hd, rxTimeoutUs, ht]⟩)

/-- A tick while no command runs is the monitor, with R driven (R16). -/
theorem tick_of_not_busy (P : Config.Params) (L : Level) (s : State) (h : s.busy = false) :
    tick P L s = { monitorLine L s with drive := .released } := by
  simp [tick, driveLevel, h]

/-- A tick while a command runs is the monitor, the phase's step and the drive (R16). -/
theorem tick_of_busy (P : Config.Params) (L : Level) (s : State) (h : s.busy = true) :
    tick P L s = { phaseStep P L (monitorLine L s) with
      drive := if s.phase = .tx then txLevel s else .released } := by
  simp [tick, driveLevel, h]

/-- What a register write can do: nothing, clear error flags, write TXBUF, or submit a command (R43, R80, R88, R89). -/
theorem regWrite_cases {r : Reg} {v : Word} {s t : State} (h : regWrite r v s = .next t) :
    t = s ∨ (r = .status ∧ t = clearErrors v s) ∨ (∃ i, r = .txbuf i ∧ t = writeTxbuf i v s) ∨
    (r = .cmd ∧ ∃ i, decodeWord v = .ok i ∧ i.op ≠ .nop ∧ t = submit i.op i.arg i.len s) ∨
    (r = .cmd ∧ ∃ op, decodeWord v = .error (.reservedOp op) ∧ t = submitReserved s) := by
  cases r <;> simp only [regWrite, Host.Outcome.next.injEq] at h <;> try exact .inl h.symm
  case cmd =>
    unfold writeCmd at h
    split at h
    next i hi =>
      cases i <;> simp only [exec, execNop, execWaitIdle, execTxSync, execTxByte, execTxFrame, execSend, execReceive,
        Host.Outcome.next.injEq] at h
      case nop => exact .inl h.symm
      all_goals exact .inr (.inr (.inr (.inl ⟨rfl, _, hi, by simp [Instr.op], h.symm⟩)))
    next op ho =>
      simp only [Host.Outcome.next.injEq] at h
      exact .inr (.inr (.inr (.inr ⟨rfl, op, ho, h.symm⟩)))
  case status => exact .inr (.inl ⟨rfl, h.symm⟩)
  case txbuf i => exact .inr (.inr (.inl ⟨i, rfl, h.symm⟩))

/-- A TXBUF write is dropped with ERR_BUSY or takes effect (R89). -/
theorem writeTxbuf_cases (i : Fin 32) (v : Word) (s : State) :
    (txbufLocked s = true ∧ writeTxbuf i v s = raiseError .busy s) ∨
    (txbufLocked s = false ∧ writeTxbuf i v s = { s with txbuf := s.txbuf.set i (v.setWidth 8) }) := by
  cases h : txbufLocked s <;> simp [writeTxbuf, h]

/-- What an edge can do: reset, the block's own part alone, or that and then a register write (R46). -/
theorem edgeStep_cases {P : Config.Params} {s t : State} (h : edgeStep P s = .next t) :
    ((edgePins s).rstN = false ∧ t = resetEdge P s) ∨
    ((edgePins s).rstN = true ∧ ((edgePins s).busSel && (edgePins s).busWe) = false ∧
      t = clockEdge P (edgePins s) (passEdge s)) ∨
    ((edgePins s).rstN = true ∧ (edgePins s).busSel = true ∧ (edgePins s).busWe = true ∧
      regWrite (regOf (edgePins s).busAddr) (edgePins s).busWdata (clockEdge P (edgePins s) (passEdge s)) =
        .next t) := by
  cases hr : (edgePins s).rstN
  · simp only [edgeStep, hr, Bool.false_eq_true, if_false, Host.Outcome.next.injEq] at h
    exact .inl ⟨rfl, h.symm⟩
  · simp only [edgeStep, hr, if_true, hostAccess] at h
    split at h
    next hw =>
      rw [Bool.and_eq_true] at hw
      exact .inr (.inr ⟨rfl, hw.1, hw.2, h⟩)
    next hw => exact .inr (.inl ⟨rfl, by simpa using hw, (Host.Outcome.next.inj h).symm⟩)

end Sys2Proof.Machine
end

