-- ==== Sys2Proof/Laws/PerInstr.lean ====
section
/-! SUPPORT. A fact of every command, one lemma per constructor: its encoding carries the row's match value of
spec/opcode_table.json under the mask 0x0000000F, and its operands in the ARG and LEN fields. -/

namespace Sys2Proof.Laws.TableRow

/-- The encoding of the command matches its row of the opcode table and holds its operands. -/
def Statement (i : Instr) : Prop :=
  cmdOp (encode i) = opCode i.op ∧ cmdArg (encode i) = i.arg ∧ cmdLen (encode i) = i.len

theorem all (i : Instr) : Statement i :=
  ⟨cmdOp_cmdWord _ _ _ _ _, cmdArg_cmdWord _ _ _ _ _, cmdLen_cmdWord _ _ _ _ _⟩

theorem nop (arg : BitVec 8) (len : BitVec 6) : Statement (.nop arg len) := all _
theorem waitIdle (arg : BitVec 8) (len : BitVec 6) : Statement (.waitIdle arg len) := all _
theorem txSync (arg : BitVec 8) (len : BitVec 6) : Statement (.txSync arg len) := all _
theorem txByte (arg : BitVec 8) (len : BitVec 6) : Statement (.txByte arg len) := all _
theorem txFrame (arg : BitVec 8) (len : BitVec 6) : Statement (.txFrame arg len) := all _
theorem send (arg : BitVec 8) (len : BitVec 6) : Statement (.send arg len) := all _
theorem receive (arg : BitVec 8) (len : BitVec 6) : Statement (.receive arg len) := all _

end Sys2Proof.Laws.TableRow
end

