-- ==== Sys2Proof/Laws/Tick.lean ====
section
/-! SUPPORT. What no tick changes: the error flags, TXBUF, the latched operands, RX_LEN, the prescaler, the synchroniser
and the model's own fields. The own part of an edge changes of these only the prescaler and the synchroniser. -/

namespace Sys2Proof.Machine

/-- The fields that no tick changes (R16, R49, R204). -/
def unticked (s : State) :=
  (s.errBusy, s.errOp, s.errLen, s.txbuf, s.argL, s.lenL, s.rxLen, s.presc, s.sync1, s.sync2, s.inputs, s.edge)

/-- `t` agrees with `s` in every field that no tick changes. -/
abbrev TickFrame (s t : State) : Prop := unticked t = unticked s

theorem TickFrame.trans {s t u : State} (h : TickFrame s t) (g : TickFrame t u) : TickFrame s u := Eq.trans g h

theorem finish_frame (s : State) : TickFrame s (finish s) := rfl

theorem startPhase_frame (p : Phase) (s : State) : TickFrame s (startPhase p s) := by
  cases p <;> exact rfl

theorem completePhase_frame (s : State) : TickFrame s (completePhase s) := by
  obtain ⟨-, h⟩ | ⟨p, ps, -, h⟩ := completePhase_cases s <;> rw [h]
  · exact finish_frame s
  · exact startPhase_frame p { s with phases := p :: ps }

theorem monitorLine_frame (L : Level) (s : State) : TickFrame s (monitorLine L s) := by
  cases L <;> exact rfl

theorem idleStep_frame (P : Config.Params) (s : State) : TickFrame s (idleStep P s) := by
  obtain ⟨h, -⟩ | ⟨-, -, h⟩ | ⟨-, -, -, h⟩ := idleStep_cases P s <;> rw [h]
  · exact rfl
  · exact completePhase_frame _
  · exact completePhase_frame _

theorem sendTxEnd_frame (P : Config.Params) (L : Level) (s : State) : TickFrame s (sendTxEnd P L s) := by
  obtain ⟨-, h⟩ | ⟨-, -, h⟩ | ⟨-, -, h⟩ := sendTxEnd_cases P L s <;> rw [h]
  · exact finish_frame s
  · exact rfl
  · exact completePhase_frame s

theorem txStep_frame (P : Config.Params) (L : Level) (s : State) : TickFrame s (txStep P L s) := by
  obtain ⟨-, h⟩ | ⟨-, -, h⟩ | ⟨-, -, h⟩ := txStep_cases P L s <;> rw [h]
  · exact rfl
  · exact sendTxEnd_frame P L _
  · exact completePhase_frame _

theorem padStep_frame (P : Config.Params) (L : Level) (s : State) : TickFrame s (padStep P L s) := by
  obtain ⟨h, -⟩ | ⟨-, -, h⟩ | ⟨-, -, -, h⟩ := padStep_cases P L s <;> rw [h]
  · exact rfl
  · exact completePhase_frame _
  · exact completePhase_frame _

theorem measurePulse_frame (L : Level) (s : State) : TickFrame s (measurePulse L s) := by
  rw [measurePulse_eq]; exact rfl

theorem rxMeasure_frame (L : Level) (s : State) : TickFrame s (rxMeasure L s) := by
  have m : TickFrame s (measurePulse L { s with rxE := s.rxE + 1, rxW := s.rxW + 1 }) :=
    measurePulse_frame L _
  obtain ⟨-, -, h⟩ | ⟨-, -, h⟩ | ⟨-, -, h⟩ := rxMeasure_cases L s <;> rw [h]
  · rw [deliverPulse_eq]; exact m
  · rw [windowTimeout_eq]; exact m
  · exact m

theorem rxStep_frame (L : Level) (s : State) : TickFrame s (rxStep L s) := by
  refine (rxMeasure_frame L s).trans ?_
  obtain ⟨-, h⟩ | ⟨-, -, h⟩ | ⟨-, -, h⟩ := rxEnd_cases (rxMeasure L s) <;> rw [rxStep, h] <;> exact rfl

theorem phaseStep_frame (P : Config.Params) (L : Level) (s : State) : TickFrame s (phaseStep P L s) := by
  unfold phaseStep
  split
  · exact idleStep_frame P s
  · exact txStep_frame P L s
  · exact padStep_frame P L s
  · exact rxStep_frame L s
  · exact rfl

/-- No tick changes the fields of `TickFrame`. -/
theorem tick_frame (P : Config.Params) (L : Level) (s : State) : TickFrame s (tick P L s) := by
  have m := monitorLine_frame L s
  cases h : s.busy
  · rw [tick_of_not_busy P L s h]; exact m
  · rw [tick_of_busy P L s h]; exact m.trans (phaseStep_frame P L _)

@[simp] theorem tick_errBusy (P : Config.Params) (L : Level) (s : State) : (tick P L s).errBusy = s.errBusy :=
  congrArg (·.1) (tick_frame P L s)

@[simp] theorem tick_errOp (P : Config.Params) (L : Level) (s : State) : (tick P L s).errOp = s.errOp :=
  congrArg (·.2.1) (tick_frame P L s)

@[simp] theorem tick_errLen (P : Config.Params) (L : Level) (s : State) : (tick P L s).errLen = s.errLen :=
  congrArg (·.2.2.1) (tick_frame P L s)

@[simp] theorem tick_txbuf (P : Config.Params) (L : Level) (s : State) : (tick P L s).txbuf = s.txbuf :=
  congrArg (·.2.2.2.1) (tick_frame P L s)

@[simp] theorem tick_argL (P : Config.Params) (L : Level) (s : State) : (tick P L s).argL = s.argL :=
  congrArg (·.2.2.2.2.1) (tick_frame P L s)

@[simp] theorem tick_lenL (P : Config.Params) (L : Level) (s : State) : (tick P L s).lenL = s.lenL :=
  congrArg (·.2.2.2.2.2.1) (tick_frame P L s)

/-- The block's own part of an edge keeps whatever no tick changes, but for the prescaler and the synchroniser. -/
theorem clockEdge_frame (P : Config.Params) (p : Config.Pins) (s : State) :
    TickFrame { s with presc := (s.presc + 1) % tickDiv P, sync1 := p.lineI, sync2 := s.sync1 } (clockEdge P p s) := by
  cases h : isTick P s
  · simp [clockEdge, h, TickFrame]
  · have f := tick_frame P (lineSample P s) s
    simp only [TickFrame, unticked, Prod.mk.injEq] at f ⊢
    simp [clockEdge, h, f]

@[simp] theorem clockEdge_errBusy (P : Config.Params) (p : Config.Pins) (s : State) :
    (clockEdge P p s).errBusy = s.errBusy := congrArg (·.1) (clockEdge_frame P p s)

@[simp] theorem clockEdge_errOp (P : Config.Params) (p : Config.Pins) (s : State) :
    (clockEdge P p s).errOp = s.errOp := congrArg (·.2.1) (clockEdge_frame P p s)

@[simp] theorem clockEdge_errLen (P : Config.Params) (p : Config.Pins) (s : State) :
    (clockEdge P p s).errLen = s.errLen := congrArg (·.2.2.1) (clockEdge_frame P p s)

@[simp] theorem clockEdge_txbuf (P : Config.Params) (p : Config.Pins) (s : State) :
    (clockEdge P p s).txbuf = s.txbuf := congrArg (·.2.2.2.1) (clockEdge_frame P p s)

@[simp] theorem clockEdge_argL (P : Config.Params) (p : Config.Pins) (s : State) :
    (clockEdge P p s).argL = s.argL := congrArg (·.2.2.2.2.1) (clockEdge_frame P p s)

@[simp] theorem clockEdge_lenL (P : Config.Params) (p : Config.Pins) (s : State) :
    (clockEdge P p s).lenL = s.lenL := congrArg (·.2.2.2.2.2.1) (clockEdge_frame P p s)

end Sys2Proof.Machine
end

