-- ==== Sys2Proof/Tests/Slice0.lean ====
section
/-! SUPPORT. Small tests. Expected values come from spec/95_test_vectors.md (the row is named), from the encodings of
30_encoding.md written out bit by bit, or by hand from the rule named; none is the model's own output. The second part
shows, for each statement with hypotheses, a concrete state and operands that meet them. -/

namespace Sys2Proof.Tests

open Sys2Proof.Machine

/-- The example configuration of D34. -/
def p34 : Config.Params := {}

/-- The block right after reset under D34. -/
def fresh : State := State.resetWith p34

/-- The next state, or `fresh` where there is none. -/
def nextOf (o : Host.Outcome State Fault Refusal) : State :=
  match o with
  | .next t => t
  | _ => fresh

/-- The state after the host writes `v` at byte offset `a`. -/
def wr (a : BitVec 9) (v : Word) (s : State) : State := nextOf (regWrite (regOf a) v s)

/-- What the host reads at byte offset `a`. -/
def rd (a : BitVec 9) (s : State) : Word := regRead p34 (regOf a) s

/-! ### Decoding and encoding: fields as rrrrrrrrrr LLLLLL AAAAAAAA rrrr OOOO (R60) -/

theorem test_decode_nop : decodeTableWord 32 0b0000000000_000000_00000000_0000_0000 = some (.nop 0x00#8 0#6) := by
  decide
theorem test_decode_wait_idle :
    decodeTableWord 32 0b0000000000_000000_00000000_0000_0001 = some (.waitIdle 0x00#8 0#6) := by decide
theorem test_decode_tx_sync :
    decodeTableWord 32 0b0000000000_000000_00000000_0000_0010 = some (.txSync 0x00#8 0#6) := by decide
theorem test_decode_tx_byte :
    decodeTableWord 32 0b0000000000_000000_10110000_0000_0011 = some (.txByte 0xB0#8 0#6) := by decide
theorem test_decode_tx_frame :
    decodeTableWord 32 0b0000000000_010011_00000000_0000_0100 = some (.txFrame 0x00#8 19#6) := by decide
theorem test_decode_send_ignores_reserved_bits :
    decodeTableWord 32 0b1111111111_000010_00000000_1111_0101 = some (.send 0x00#8 2#6) := by decide
theorem test_decode_receive :
    decodeTableWord 32 0b0000000000_010000_00000000_0000_0110 = some (.receive 0x00#8 16#6) := by decide
theorem test_decode_short_table_word : decodeTableWord 8 0x05 = some (.send 0x00#8 0#6) := by decide
theorem test_decode_reserved : decodeTableWord 32 0x00000007 = none ∧ decodeTableWord 32 0x0000000F = none := by decide

/-- R68's assembled words, 30_encoding.md section 4. -/
theorem test_encode : encode (.txByte 0xB0#8 0#6) = 0x0000B003#32 ∧ encode (.txFrame 0x00#8 19#6) = 0x00130004#32 ∧
    encode (.send 0x00#8 4#6) = 0x00040005#32 ∧ encode (.receive 0x00#8 16#6) = 0x00100006#32 := by decide

/-! ### Well-formedness: each check refuses an ill-formed command (R67) -/

theorem test_wf_refuses_tx_frame : Instr.wf (.txFrame 0#8 0#6) = false ∧ Instr.wf (.txFrame 0#8 33#6) = false ∧
    Instr.wf (.txFrame 0#8 1#6) = true ∧ Instr.wf (.txFrame 0#8 32#6) = true := by decide
theorem test_wf_refuses_send : Instr.wf (.send 0#8 1#6) = false ∧ Instr.wf (.send 0#8 5#6) = false ∧
    Instr.wf (.send 0#8 2#6) = true ∧ Instr.wf (.send 0#8 4#6) = true := by decide
theorem test_wf_refuses_receive : Instr.wf (.receive 0#8 17#6) = false ∧ Instr.wf (.receive 0#8 16#6) = true := by
  decide

/-! ### Host writes: vectors E1–E24 of section 2.1 -/

theorem test_nop_with_every_other_bit : rd 0x004 (wr 0x000 0xFFFFFFF0 fresh) = 0x00000000#32 := by decide
theorem test_reserved_op : rd 0x004 (wr 0x000 0x00000007 fresh) = 0x00020000#32 := by decide
theorem test_tx_frame_33 : rd 0x004 (wr 0x000 0x00210004 fresh) = 0x00040000#32 := by decide
theorem test_send_with_reserved_bits : rd 0x004 (wr 0x000 0xFFC200F5 fresh) = 0x00001051#32 := by decide
theorem test_busy_comes_before_reserved_op :
    rd 0x004 (wr 0x000 0x0000000F (wr 0x000 0x00020005 fresh)) = 0x00011051#32 := by decide
theorem test_nop_while_busy : rd 0x004 (wr 0x000 0xFFFFFFF0 (wr 0x000 0x00020005 fresh)) = 0x00001051#32 := by decide
theorem test_txbuf_locked_during_send :
    rd 0x100 (wr 0x100 0x000000FF (wr 0x000 0x00020005 fresh)) = 0x00000000#32 ∧
    rd 0x004 (wr 0x100 0x000000FF (wr 0x000 0x00020005 fresh)) = 0x00011051#32 := by decide
theorem test_txbuf_open_during_receive :
    rd 0x100 (wr 0x100 0x000000FF (wr 0x000 0x00020006 fresh)) = 0x000000FF#32 := by decide
theorem test_status_write_clears_one_flag :
    rd 0x004 (wr 0x004 0x00020000 { fresh with errBusy := true, errOp := true, errLen := true }) = 0x00050000#32 := by
  decide
theorem test_txbuf_keeps_the_low_byte : rd 0x10C (wr 0x10C 0xFFFFFFAB fresh) = 0x000000AB#32 := by decide
theorem test_read_only_write_ignored : rd 0x010 (wr 0x010 0x12345678 fresh) = 0x00000960#32 := by decide
theorem test_low_address_bits : rd 0x007 { fresh with line := true } = 0x00000002#32 := by decide
theorem test_windows : rd 0x038 fresh = 0x0B4007D0#32 ∧ rd 0x03C fresh = 0x05A003E8#32 ∧
    rd 0x040 fresh = 0x02D001F4#32 ∧ rd 0x044 fresh = 0#32 := by decide

/-! ### One tick of each command -/

/-- W2: an idle line ends WAIT_IDLE at its first tick; STATUS 0x00000104. -/
theorem test_wait_idle_on_idle_line :
    rd 0x004 (tick p34 .released (wr 0x000 0x00000001 { fresh with idleCnt := 4999#32 })) = 0x00000104#32 := by decide
/-- W9: with IDLE_TOTAL_US = 1 the first tick times out; STATUS 0x00000500. -/
theorem test_wait_idle_times_out :
    rd 0x004 (tick { idleTotalUs := 1 } .released (wr 0x000 0x00000001 fresh)) = 0x00000500#32 := by decide
/-- B1: the sync is asserted up to tick 2400, released after, and ends at tick 3000. -/
theorem test_tx_sync_edges :
    (tick p34 .asserted { wr 0x000 0x00000002 fresh with txPos := 2399 }).drive = .asserted ∧
    (tick p34 .asserted { wr 0x000 0x00000002 fresh with txPos := 2400 }).drive = .released ∧
    (tick p34 .asserted { wr 0x000 0x00000002 fresh with txPos := 2998 }).busy = true ∧
    (tick p34 .asserted { wr 0x000 0x00000002 fresh with txPos := 2999 }).busy = false := by decide
/-- B4: TX_BYTE 0xA5 begins with a 1200-tick mark, 600 released, a 600-tick mark, and lasts 12000 ticks. -/
theorem test_tx_byte_a5 :
    levelAt (wr 0x000 0x0000A503 fresh).txWave 1199 = .asserted ∧
    levelAt (wr 0x000 0x0000A503 fresh).txWave 1200 = .released ∧
    levelAt (wr 0x000 0x0000A503 fresh).txWave 2399 = .asserted ∧
    levelAt (wr 0x000 0x0000A503 fresh).txWave 2400 = .released ∧
    waveLength (wr 0x000 0x0000A503 fresh).txWave = 12000 := by decide
/-- B9: TX_FRAME 2 of B8 1F lasts 27600 ticks. -/
theorem test_tx_frame_b8_1f :
    waveLength (wr 0x000 0x00020004 (wr 0x104 0x1F (wr 0x100 0xB8 fresh))).txWave = 27600 := by decide
/-- X8 and X9: an asserted sample at SEND's last TX tick stops the padding early, unless the word gap is reached. -/
theorem test_send_first_checkpoint :
    (tick p34 .asserted { wr 0x000 0x00020005 fresh with
      phase := .tx, phases := [.tx, .pad], txWave := syncSegs, txPos := 2999, e := 24599 }).padEarly = true ∧
    (tick { wordGapUs := 24600 } .asserted { wr 0x000 0x00020005 fresh with
      phase := .tx, phases := [.tx, .pad], txWave := syncSegs, txPos := 2999, e := 24599 }).padEarly = false := by decide
/-- V7: a SYNC-width pulse in Accumulate is a 0 bit; here the last bit of a byte, so 0x7E is appended. -/
theorem test_receive_sync_width_is_a_zero_bit :
    rd 0x180 (tick p34 .released { wr 0x000 0x00010006 fresh with
      rxState := .accumulate, rxBitIdx := 7#3, rxAcc := 0x7E#8, rxSub := .inPulse, rxWidth := 2400 }) = 0x0000007E#32 ∧
    rd 0x048 (tick p34 .released { wr 0x000 0x00010006 fresh with
      rxState := .accumulate, rxBitIdx := 7#3, rxAcc := 0x7E#8, rxSub := .inPulse, rxWidth := 2400 }) = 0x00010960#32 := by
  decide
/-- V18 and V19: at RX_E = 60000 a byte that completes counts as received, and otherwise the command times out. -/
theorem test_receive_done_wins_over_timeout :
    (tick p34 .released { wr 0x000 0x00010006 fresh with
      rxState := .accumulate, rxBitIdx := 7#3, rxSub := .inPulse, rxWidth := 600, rxE := 59999 }).rxTimeout = false ∧
    (tick p34 .asserted { wr 0x000 0x00010006 fresh with
      rxState := .accumulate, rxBitIdx := 7#3, rxSub := .inPulse, rxWidth := 599, rxE := 59999 }).rxTimeout = true := by
  decide
/-- V5, V6: a pulse in progress at acceptance is skipped. V13, V15: at RX_W = 55000 an asserted pulse is abandoned. -/
theorem test_receive_skips_a_pulse_in_progress :
    (tick p34 .asserted (wr 0x000 0x00010006 fresh)).rxSub = .waitLow ∧
    (tick p34 .asserted { wr 0x000 0x00010006 fresh with
      rxSub := .inPulse, rxWidth := 54989, rxW := 54999, rxE := 54999 }).rxSub = .waitLow ∧
    rd 0x048 (tick p34 .asserted { wr 0x000 0x00010006 fresh with
      rxSub := .inPulse, rxWidth := 54989, rxW := 54999, rxE := 54999 }) = 0x00000000#32 := by decide
/-- Section 2.6. -/
theorem test_classifier_bounds :
    [499, 500, 720, 721, 999, 1000, 1440, 1441, 1999, 2000, 2880, 2881].map classify =
      [.noise, .zero, .zero, .noise, .noise, .one, .one, .noise, .noise, .sync, .sync, .noise] := by decide

/-- The first step after reset runs the command that `withFetchWord` writes. -/
theorem test_first_step_after_reset :
    (nextOf (step (State.reset.withFetchWord 32 0x00000002))).curOp = .txSync ∧
    (nextOf (step (State.reset.withFetchWord 32 0x00020006))).phase = .rx ∧
    (nextOf (step (State.reset.withFetchWord 32 0x00000007))).errOp = true := by decide

end Sys2Proof.Tests
end

