-- ==== Sys2Proof/Tests/Witness.lean ====
section
/-! SUPPORT. For each statement with hypotheses, a concrete state and operands that meet them together: the theorem
`witness_<Statement>`. A statement whose only hypothesis is that no command runs, or a bound on LEN beside it, is
covered by `witness_NoCommandRuns`. -/

namespace Sys2Proof.Tests

open Sys2Proof.Machine

/-- A state of the block with its own parameters, with these port values at the next edge. -/
def atEdge (p : Config.Pins) (s : State) : State := { s with inputs := [p] }

/-- The port values of a host write. -/
def writePins (a : BitVec 9) (v : Word) : Config.Pins := { busSel := true, busWe := true, busAddr := a, busWdata := v }

/-- The port values of a host read. -/
def readPins (a : BitVec 9) : Config.Pins := { busSel := true, busAddr := a }

/-- SEND of two zero bytes at its first TX tick. -/
def sendTx : State := { wr 0x000 0x00020005 fresh with phase := .tx, phases := [.tx, .pad], txWave := syncSegs }

/-- The hypotheses of the acceptance statements, at the least and the greatest LEN of each command, and of
IllegalLenSetsErrLenOnly just outside; also those of IdleTicksKeepTheResults, TxSyncDrivesTheSyncMark,
TxByteDrivesTheByte, TxFrameDrivesTheFrame, SendDrivesIdleThenTheFrameThenPadding, ReceiveZeroFinishesAtOnce,
ReceiveEndsByDoneOrTimeout and EveryAcceptedCommandEnds. -/
theorem witness_NoCommandRuns : fresh.busy = false ∧
    Instr.wf (.waitIdle 0#8 0#6) = true ∧ Instr.op (.waitIdle 0#8 0#6) ≠ .nop ∧
    (1 ≤ (1#6).toNat ∧ (1#6).toNat ≤ 32) ∧ (1 ≤ (32#6).toNat ∧ (32#6).toNat ≤ 32) ∧
    (2 ≤ (2#6).toNat ∧ (2#6).toNat ≤ 4) ∧ (2 ≤ (4#6).toNat ∧ (4#6).toNat ≤ 4) ∧
    (0#6).toNat ≤ 16 ∧ (16#6).toNat ≤ 16 ∧
    Instr.wf (.txFrame 0#8 0#6) = false ∧ Instr.wf (.txFrame 0#8 33#6) = false ∧
    Instr.wf (.send 0#8 1#6) = false ∧ Instr.wf (.send 0#8 5#6) = false ∧ Instr.wf (.receive 0#8 17#6) = false := by
  decide

theorem witness_EncodeOfDecodeKeepsEveryUsedBit :
    decodeWord 0xFFC200F5#32 = .ok (.send 0#8 2#6) := by rfl

/-- Each clause of CmdWriteMakesTheChecksInOrder and of IllegalLenSetsErrLenOnly, at the ends of its range; also
ReservedOpcodeSetsErrOpOnly and NopChangesNothing. -/
theorem witness_CmdWriteMakesTheChecksInOrder :
    (0xFFFFFFF0#32).extractLsb' 0 4 = 0#4 ∧ (0x00000001#32).extractLsb' 0 4 ≠ 0#4 ∧
    ((0x00000007#32).extractLsb' 0 4).toNat = 7 ∧ ((0x0000000F#32).extractLsb' 0 4).toNat = 15 ∧
    ((0x00210004#32).extractLsb' 0 4 = 4#4 ∧ ((0x00210004#32).extractLsb' 16 6).toNat = 33) ∧
    ((0x00050005#32).extractLsb' 0 4 = 5#4 ∧ ((0x00050005#32).extractLsb' 16 6).toNat = 5) ∧
    ((0x00110006#32).extractLsb' 0 4 = 6#4 ∧ ((0x00110006#32).extractLsb' 16 6).toNat = 17) ∧
    ((0x00100006#32).extractLsb' 0 4 = 6#4 ∧ ((0x00100006#32).extractLsb' 16 6).toNat = 16) ∧
    fresh.busy = false ∧ (wr 0x000 0x00020005 fresh).busy = true := by decide

theorem witness_WritesWhileBusySetErrBusyOnly :
    (wr 0x000 0x00020005 fresh).busy = true ∧ (wr 0x000 0x00020005 fresh).curOp = .send ∧
    (wr 0x000 0x00010004 fresh).busy = true ∧ (wr 0x000 0x00010004 fresh).curOp = .txFrame ∧
    (0x00000003#32).extractLsb' 0 4 ≠ 0#4 := by decide

/-- Also TxbufWriteTakesEffectUnlessAFrameRuns, both clauses. -/
theorem witness_TxbufWriteTakesEffectUnlessAFrameRuns :
    ((wr 0x000 0x00020005 fresh).busy = true ∧ (wr 0x000 0x00020005 fresh).curOp = .send) ∧
    ¬ ((wr 0x000 0x00020006 fresh).busy = true ∧
      ((wr 0x000 0x00020006 fresh).curOp = .txFrame ∨ (wr 0x000 0x00020006 fresh).curOp = .send)) := by decide

theorem witness_ReservedOffsetsAndFieldsReadZeroIgnoreWrites :
    (0x044 ≤ (0x044#9).toNat ∧ (0x047#9).toNat < 0x048) ∧ (0x04C ≤ (0x04C#9).toNat ∧ (0x0FF#9).toNat < 0x100) ∧
    0x1C0 ≤ (0x1C0#9).toNat ∧ 0x1C0 ≤ (0x1FF#9).toNat ∧
    0xFFC200F5#32 &&& 0x003FFF0F#32 = 0x00020005#32 &&& 0x003FFF0F#32 ∧
    0xFFFF0000#32 &&& 0x00070000#32 = 0x00070000#32 &&& 0x00070000#32 ∧
    0x123456AB#32 &&& 0x000000FF#32 = 0x000000AB#32 &&& 0x000000FF#32 := by decide

theorem witness_AddressLowBitsAreIgnored : (0x007#9).extractLsb' 2 7 = (0x004#9).extractLsb' 2 7 := by decide

/-! ### Statements about an edge -/

theorem witness_StepRunsTheDecodedCommand :
    (edgePins (atEdge (writePins 0x003 0x00020005) State.reset)).rstN = true ∧
    (edgePins (atEdge (writePins 0x003 0x00020005) State.reset)).busSel = true ∧
    (edgePins (atEdge (writePins 0x003 0x00020005) State.reset)).busWe = true ∧
    (edgePins (atEdge (writePins 0x003 0x00020005) State.reset)).busAddr.toNat < 4 ∧
    decodeWord (edgePins (atEdge (writePins 0x003 0x00020005) State.reset)).busWdata = .ok (.send 0#8 2#6) ∧
    decodeTableWord 32 0x00020005 = some (.send 0#8 2#6) := ⟨rfl, rfl, rfl, by decide, rfl, rfl⟩

/-- A state whose next edge is no tick, and one whose next edge is a tick; also SynchroniserHasTwoStages,
NoWritePreemptsTheRunningCommand and TheLineIsDrivenOnlyByATxTick. -/
theorem witness_TickOccursOncePerTickDivEdges :
    (edgePins (atEdge (readPins 0x004) State.reset)).rstN = true ∧
    ((edgePins (atEdge (readPins 0x004) State.reset)).busSel &&
      (edgePins (atEdge (readPins 0x004) State.reset)).busWe) = false ∧
    (atEdge (readPins 0x004) State.reset).presc + 1 < tickDiv Config.params ∧
    (∃ s : State, (edgePins s).rstN = true ∧ s.presc + 1 = tickDiv Config.params ∧ ∃ t, step s = .next t) ∧
    (∃ t, step (atEdge (readPins 0x004) State.reset) = .next t) :=
  ⟨rfl, rfl, by simp [atEdge, State.reset, State.resetWith, tickDiv],
    ⟨atEdge (readPins 0x004) { State.reset with presc := tickDiv Config.params - 1 }, rfl,
      by simp [atEdge, tickDiv], _, rfl⟩, _, rfl⟩

theorem witness_AnEdgeReadsThenTicksThenWrites :
    (edgePins (atEdge {} State.reset)).busSel = false ∧
    ((edgePins (atEdge (readPins 0x004) State.reset)).busSel = true ∧
      (edgePins (atEdge (readPins 0x004) State.reset)).busWe = false) ∧
    ((edgePins (atEdge (writePins 0x100 0xAB) State.reset)).rstN = true ∧
      (edgePins (atEdge (writePins 0x100 0xAB) State.reset)).busSel = true ∧
      (edgePins (atEdge (writePins 0x100 0xAB) State.reset)).busWe = true) := ⟨rfl, ⟨rfl, rfl⟩, rfl, rfl, rfl⟩

theorem witness_TickDivEdgesAreOneTick :
    ∃ (s : State) (ps rest : List Config.Pins), s.presc = 0 ∧ s.inputs = ps ++ rest ∧
      ps.length = tickDiv Config.params ∧ ∀ p ∈ ps, p.rstN = true ∧ (p.busSel && p.busWe) = false :=
  ⟨{ State.reset with inputs := List.replicate (tickDiv Config.params) {} ++ [] },
    List.replicate (tickDiv Config.params) {}, [], rfl, rfl, List.length_replicate,
    fun p hp => by rw [List.eq_of_mem_replicate hp]; exact ⟨rfl, rfl⟩⟩

/-- Also HeldInResetTheBlockIgnoresTheBus. -/
theorem witness_ResetTakesAllStateToItsResetValue :
    (edgePins (atEdge { readPins 0x004 with rstN := false } sendTx)).rstN = false ∧
    (edgePins (atEdge { readPins 0x004 with rstN := false } sendTx)).busSel = true ∧
    (edgePins (atEdge { readPins 0x004 with rstN := false } sendTx)).busWe = false ∧
    (atEdge { readPins 0x004 with rstN := false } sendTx).inputs.tail = (atEdge {} fresh).inputs.tail ∧
    (atEdge { readPins 0x004 with rstN := false } sendTx).edge = (atEdge {} fresh).edge := ⟨rfl, rfl, rfl, rfl, rfl⟩

/-- A state other than reset that satisfies the invariant, and its step: TX_SYNC's second tick is next. -/
theorem witness_EveryStepKeepsTheInvariant :
    ({ State.reset with
      busy := true, curOp := .txSync, phases := [.tx], phase := .tx, txWave := syncSegs, txPos := 1, e := 1
      drive := .asserted, errOp := true } : State).Inv Config.params ∧
    ∃ t, step { State.reset with
      busy := true, curOp := .txSync, phases := [.tx], phase := .tx, txWave := syncSegs, txPos := 1, e := 1
      drive := .asserted, errOp := true, inputs := [{}] } = .next t := by
  refine ⟨?_, _, rfl⟩
  constructor <;> simp [State.reset, State.resetWith, tickDiv, phaseList, legalLen, waveSegs, syncSegs, waveLength,
    levelAt, syncMarkUs, delimUs]

/-- One state for each clause: set as busy, as reserved, for LEN; cleared one by one. -/
theorem witness_ErrorFlagsChangeOnlyByTheirWrites :
    (nextOf (step (atEdge (writePins 0x000 0x3) { State.reset with busy := true }))).errBusy = true ∧
    (nextOf (step (atEdge (writePins 0x17C 0x3) { State.reset with busy := true, curOp := .send }))).errBusy = true ∧
    (nextOf (step (atEdge (writePins 0x100 0x3) { State.reset with busy := true, curOp := .txFrame }))).errBusy = true ∧
    (nextOf (step (atEdge (writePins 0x000 0x7) State.reset))).errOp = true ∧
    (nextOf (step (atEdge (writePins 0x000 0x00210004) State.reset))).errLen = true ∧
    (nextOf (step (atEdge (writePins 0x000 0x00050005) State.reset))).errLen = true ∧
    (nextOf (step (atEdge (writePins 0x000 0x00110006) State.reset))).errLen = true ∧
    State.reset.errBusy = false ∧ State.reset.errOp = false ∧ State.reset.errLen = false ∧
    (nextOf (step (atEdge (writePins 0x004 0x00010000) { State.reset with errBusy := true }))).errBusy = false ∧
    (nextOf (step (atEdge (writePins 0x004 0x00020000) { State.reset with errOp := true }))).errOp = false ∧
    (nextOf (step (atEdge (writePins 0x004 0x00040000) { State.reset with errLen := true }))).errLen = false := by
  decide

/-- Also the last clause of NoWritePreemptsTheRunningCommand: TXBUF changes while RECEIVE runs. -/
theorem witness_TheFrameInFlightIsFrozen :
    (edgePins (atEdge (writePins 0x100 0xFF) { State.reset with busy := true, curOp := .send })).rstN = true ∧
    (clockEdge Config.params (writePins 0x100 0xFF)
      (passEdge (atEdge (writePins 0x100 0xFF) { State.reset with busy := true, curOp := .send }))).busy = true ∧
    (∃ t, step (atEdge (writePins 0x100 0xFF) { State.reset with busy := true, curOp := .send }) = .next t) ∧
    (nextOf (step (atEdge (writePins 0x100 0xFF) { State.reset with busy := true, curOp := .receive }))).txbuf[0] =
      0xFF#8 := ⟨rfl, by decide, ⟨_, rfl⟩, by decide⟩

theorem witness_ReadsHaveNoSideEffectsAndWritesRepeatAsStated :
    (readPins 0x004).busWe = false ∧ State.reset.presc + 1 < tickDiv Config.params ∧
    Reg.rxstat ≠ .cmd ∧ Reg.rxstat ≠ .status ∧ (∀ i, Reg.rxstat ≠ .txbuf i) ∧
    fresh.busy = false ∧ (wr 0x000 0x00000001 fresh).busy = true ∧
    regWrite .cmd 0x00000001 fresh = .next (wr 0x000 0x00000001 fresh) :=
  ⟨rfl, by simp [State.reset, State.resetWith, tickDiv], by decide, by decide, by decide, rfl, by decide, rfl⟩

/-! ### Statements about runs of ticks -/

theorem witness_IdleCntCountsConsecutiveReleasedSamples :
    (∃ (L : Nat → Level) (n m : Nat), m < n ∧ L (n - m) = .asserted ∧ ∀ j, n - m < j → j ≤ n → L j = .released) ∧
    fresh.idleCnt = 0#32 ∧
    (let s := wr 0x000 0x00000001 fresh
     (tick p34 .released s).phase = .idle ∧ s.phase = .idle ∧ s.busy = true ∧ s.k % p34.idlePollUs = 0 ∧
     (tick p34 .released s).k = s.k + 1) :=
  ⟨⟨fun j => if j ≤ 1 then .asserted else .released, 3, 2, by decide, rfl, fun j h _ => by simp; omega⟩, rfl,
    by decide⟩

/-- A first deciding poll exists: with IDLE_TOTAL_US = 1 it is tick 1, for any line. -/
theorem witness_WaitIdleFinishesAtItsFirstDecidingPoll :
    fresh.busy = false ∧ 1 ≤ 1 ∧ (1 - 1) % ({ idleTotalUs := 1 } : Config.Params).idlePollUs = 0 ∧
    ({ idleTotalUs := 1 } : Config.Params).idleTotalUs ≤ 1 := by decide

theorem witness_IdlePhaseAlwaysEnds :
    (let s := wr 0x000 0x00020005 fresh
     s.busy = true ∧ s.curOp = .send ∧ s.phases = phaseList s.curOp ∧ s.phase = .idle ∧ s.k = 0) ∧
    (let s := wr 0x000 0x00000001 fresh
     s.busy = true ∧ s.curOp = .waitIdle ∧ s.phases = phaseList s.curOp ∧ s.phase = .idle ∧ s.k = 0) := by decide

theorem witness_WaitIdleOnAnIdleLineTakesOneTick :
    (({ fresh with idleCnt := 4999#32 } : State).idleCnt.toNat ≥ p34.lineReadyUs - 1 ∧
      ({ fresh with idleCnt := 4999#32 } : State).busy = false) ∧
    (let s := wr 0x000 0x00020005 { fresh with idleCnt := 4999#32 }
     s.idleCnt.toNat ≥ p34.lineReadyUs - 1 ∧ s.busy = true ∧ s.curOp = .send ∧ s.phases = phaseList .send ∧
     s.phase = .idle ∧ s.k = 0) ∧
    (fun _ : Nat => Level.released) 1 = .released := by decide

/-- Also WaitIdleOnAnAssertedLineTimesOut and SilenceTimesOutAfterSixtyThousandTicks. -/
theorem witness_WaitIdleFromAZeroCountWaitsLineReady :
    fresh.busy = false ∧ fresh.idleCnt = 0#32 ∧ p34.lineReadyUs ≤ p34.idleTotalUs ∧
    (∀ n, (fun _ : Nat => Level.released) n = .released) ∧ (∀ n, (fun _ : Nat => Level.asserted) n = .asserted) ∧
    1 ≤ (1#6).toNat ∧ (1#6).toNat ≤ 16 ∧ (16#6).toNat ≤ 16 :=
  ⟨rfl, rfl, by decide, fun _ => rfl, fun _ => rfl, by decide, by decide, by decide⟩

theorem witness_TheLineIsDrivenOnlyByATxTick : (tick p34 .released sendTx).drive = .asserted := by decide

/-- Each clause: the word gap reached, an asserted line, a released line. -/
theorem witness_SendsLastTxTickIsTheFirstCheckpoint :
    (let s := { sendTx with txPos := 2999, e := 24599 }
     s.busy = true ∧ s.curOp = .send ∧ s.phase = .tx ∧ s.phases = [.tx, .pad] ∧
     s.txPos + 1 = waveLength s.txWave ∧ s.e + 1 < p34.wordGapUs ∧
     ({ wordGapUs := 24600 } : Config.Params).wordGapUs ≤ s.e + 1) := by decide

/-- Also SendPaddingStopsEarlyOnTraffic, at its first checkpoint (j = 0) on an asserted line. -/
theorem witness_SendPadsToTheWordGap :
    sendTx.busy = true ∧ sendTx.curOp = .send ∧ sendTx.phase = .tx ∧ sendTx.phases = [.tx, .pad] ∧
    sendTx.txPos = 0 ∧ sendTx.e = 0 ∧ 0 < waveLength sendTx.txWave ∧
    (∀ n, (fun _ : Nat => Level.released) n = .released) ∧
    waveLength sendTx.txWave + 0 * p34.idlePollUs < p34.wordGapUs ∧
    (∀ n, (fun _ : Nat => Level.asserted) n = .asserted) ∧
    ∀ j', j' < 0 → (fun _ : Nat => Level.asserted) j' = .released :=
  ⟨by decide, by decide, by decide, by decide, by decide, by decide, by decide, fun _ => rfl, by decide,
    fun _ => rfl, fun _ h => by omega⟩

/-- Each clause: an RX tick, a pulse that completes, the last tick of a window and the tick before it, and the
deliveries. -/
theorem witness_RxTickMeasuresPulsesAndAssemblesBits :
    (let s := wr 0x000 0x00010006 fresh
     s.busy = true ∧ s.phase = .rx ∧ ¬ (s.rxSub = .inPulse ∧ Level.asserted = .released) ∧ s.rxW + 1 < 55000 ∧
     ({ s with rxW := 54998 } : State).rxW + 1 < 55000 ∧ 55000 ≤ ({ s with rxW := 54999 } : State).rxW + 1 ∧
     ({ s with rxSub := .inPulse } : State).rxSub = .inPulse) ∧
    classify 2400 = .sync ∧ classify 1999 ≠ .sync ∧ 2400 < 65536 ∧ fresh.rxState = .waitSync ∧
    ({ fresh with rxState := .accumulate, rxBitIdx := 6#3 } : State).rxBitIdx.toNat < 7 ∧
    ({ fresh with rxState := .accumulate, rxBitIdx := 7#3, rxCount := 15#5 } : State).rxBitIdx.toNat = 7 ∧
    ({ fresh with rxState := .accumulate, rxBitIdx := 7#3, rxCount := 15#5 } : State).rxCount.toNat < 16 := by decide

/-- The line of the round trip: released, then what the transmitter drives. -/
theorem witness_ReceiveDecodesWhatTxFrameDrives :
    fresh.busy = false ∧ 1 ≤ (1#6).toNat ∧ (1#6).toNat ≤ 16 ∧
    1 + frameTicks (fresh.txbuf.toList.take (1#6).toNat) - 599 ≤ 60000 ∧
    ∀ (LS : Nat → Level) (t : State) (d : Nat), ∃ LR : Nat → Level,
      (∀ i, 1 ≤ i → i ≤ d → LR i = .released) ∧ ∀ i, 1 ≤ i → LR (d + i) = (afterTicks p34 LS i t).drive :=
  ⟨rfl, by decide, by decide, by decide, fun LS t d =>
    ⟨fun j => if j ≤ d then .released else (afterTicks p34 LS (j - d) t).drive, fun i _ h => by simp [h],
      fun i h => by
        have hd : ¬ d + i ≤ d := by omega
        have hs : d + i - d = i := by omega
        simp only [hd, hs, if_false]⟩⟩

/-- The line samples that a list gives, released after its end. -/
def lineOf (l : List Level) (j : Nat) : Level := l[j - 1]?.getD .released

theorem lineOf_mem (l : List Level) (i : Nat) (h : i < l.length) : some (lineOf l (i + 1)) = l[i]? := by
  simp only [lineOf, Nat.add_sub_cancel, List.getElem?_eq_getElem h, Option.getD_some]

theorem lineOf_end (l : List Level) : lineOf l (l.length + 1) = .released := by
  simp only [lineOf, Nat.add_sub_cancel, List.getElem?_eq_none (Nat.le_refl l.length), Option.getD_none]

theorem pulseLine_length (ps : List (Nat × Nat)) : (pulseLine ps).length = (ps.map fun p => p.1 + p.2).sum := by
  simp [pulseLine, List.length_flatMap]

/-- The samples of a prelude and then pulses. -/
def preludeLine (rel low : Nat) (pulses : List (Nat × Nat)) : List Level :=
  List.replicate rel .released ++ List.replicate low .asserted ++ pulseLine pulses

theorem preludeLine_length (rel low : Nat) (pulses : List (Nat × Nat)) :
    (preludeLine rel low pulses).length = rel + low + (pulses.map fun p => p.1 + p.2).sum := by
  simp [preludeLine, pulseLine_length, Nat.add_assoc]

/-- A noise pulse, a sync and a zero byte as eight marks, with 1-tick delimiters. -/
def noisyFrame : List (Nat × Nat) := [(1, 1999)] ++ (1, 2000) :: List.replicate 8 (1, 100)

/-- After each prelude, at the ends of its range: none, a sync in progress up to the end of its window, and a pulse
abandoned at its first tick or begun with the command. -/
theorem witness_ToleratedFramesAreDecoded :
    [0x00#8].length = (1#6).toNat ∧ (List.replicate 8 (1, 100)).length = 8 * (1#6).toNat ∧
    (∀ p ∈ [(1, 1999)], p.2 < 2000 ∨ 2880 < p.2) ∧
    (∀ p ∈ noisyFrame, 1 ≤ p.1 ∧ 1 ≤ p.2 ∧ p.1 + p.2 ≤ 55000) ∧
    (∀ j, j < 8 → ((1000 ≤ ((List.replicate 8 (1, 100)).getD j (0, 0)).2 ∧
        ((List.replicate 8 (1, 100)).getD j (0, 0)).2 ≤ 1440) ↔
      ([0x00#8].getD (j / 8) 0x00#8).getLsbD (7 - j % 8) = true)) ∧
    (∀ low ∈ [0, 52999], low + (noisyFrame.headD (0, 0)).1 + (noisyFrame.headD (0, 0)).2 + 1 ≤ 55000) ∧
    (54999 < 55000 ∧ 55000 ≤ 54999 + 1) ∧ 55000 ≤ 0 + 55000 ∧
    ∀ q ∈ [(0, 0), (0, 52999), (54999, 1), (0, 55000)],
      (preludeLine q.1 q.2 noisyFrame).length + 1 ≤ 60000 ∧
      ∃ LR : Nat → Level,
        (∀ i, i < (preludeLine q.1 q.2 noisyFrame).length →
          some (LR (i + 1)) = (preludeLine q.1 q.2 noisyFrame)[i]?) ∧
        LR ((preludeLine q.1 q.2 noisyFrame).length + 1) = .released := by
  refine ⟨by decide, by decide, by decide, by decide, by decide, by decide, by decide, by decide, fun q hq =>
    ⟨?_, lineOf _, lineOf_mem _, lineOf_end _⟩⟩
  rw [preludeLine_length]
  revert q
  decide

/-- Both kinds of clause: no command runs, or another phase than RX; a write other than RECEIVE. -/
theorem witness_ReceiverFieldsChangeOnlyByReceive :
    fresh.busy = false ∧ sendTx.phase ≠ .rx ∧ ¬ (Reg.status = .cmd ∧ (0x6#32).extractLsb' 0 4 = 6#4) ∧
    regWrite .status 0x6 fresh = .next (wr 0x004 0x6 fresh) := ⟨by decide, by decide, by decide, rfl⟩

/-- BASE .. BASE + 0x1FF are decoded, the addresses on either side are not (R40, R51). -/
theorem test_window_place : windowOffset? { base := 512 } 511 = none ∧ windowOffset? { base := 512 } 512 = some 0x000#9 ∧
    windowOffset? { base := 512 } 1024 = none ∧ windowOffset? { base := 512 } 1023 = some 0x1FF#9 := by decide

end Sys2Proof.Tests
end

section
/-! The fields outside the sequencer: STATUS.LINE, the prescaler, the synchroniser, DRIVE and the model's own fields. A
phase step neither reads nor writes them, a register write does not write them, so one commutation lemma for each
operation gives both its frame and the order-independence of a tick and the rest of its edge (10_state.md R12–R16). -/

namespace Sys2Proof.Machine

/-- Values for the fields outside the sequencer. -/
structure Outside where
  line : Bool
  presc : Nat
  sync1 : Bool
  sync2 : Bool
  drive : Level
  inputs : List Config.Pins
  edge : Nat

/-- The fields outside the sequencer as they stand in `s`. -/
def State.outside (s : State) : Outside := ⟨s.line, s.presc, s.sync1, s.sync2, s.drive, s.inputs, s.edge⟩

/-- `s` with other values in the fields outside the sequencer. -/
def State.withOutside (o : Outside) (s : State) : State :=
  { s with line := o.line, presc := o.presc, sync1 := o.sync1, sync2 := o.sync2, drive := o.drive
           inputs := o.inputs, edge := o.edge }

@[simp] theorem withOutside_phase (o : Outside) (s : State) : (s.withOutside o).phase = s.phase := rfl
@[simp] theorem withOutside_phases (o : Outside) (s : State) : (s.withOutside o).phases = s.phases := rfl
@[simp] theorem withOutside_rxState (o : Outside) (s : State) : (s.withOutside o).rxState = s.rxState := rfl
@[simp] theorem withOutside_rxSub (o : Outside) (s : State) : (s.withOutside o).rxSub = s.rxSub := rfl
@[simp] theorem withOutside_rxW (o : Outside) (s : State) : (s.withOutside o).rxW = s.rxW := rfl

/-- An operation that takes no notice of the fields outside the sequencer leaves them as they are. -/
theorem outside_of_commutes {f : State → State} (hf : ∀ o s, f (s.withOutside o) = (f s).withOutside o) (s : State) :
    (f s).outside = s.outside := by
  show (f (s.withOutside s.outside)).outside = s.outside
  rw [hf]
  rfl

section
variable (o : Outside) (P : Config.Params) (L : Level) (s : State)

theorem startPhase_withOutside (p : Phase) : startPhase p (s.withOutside o) = (startPhase p s).withOutside o := by
  cases p <;> rfl

theorem nextPhase_withOutside : nextPhase (s.withOutside o) = (nextPhase s).withOutside o := by
  rcases h : s.phases with _ | ⟨p, ps⟩ <;> simp only [nextPhase, withOutside_phases, h]
  · rfl
  · exact startPhase_withOutside o s p

theorem completePhase_withOutside : completePhase (s.withOutside o) = (completePhase s).withOutside o :=
  nextPhase_withOutside o { s with phases := s.phases.tail }

theorem idleStep_withOutside : idleStep P (s.withOutside o) = (idleStep P s).withOutside o := by
  simp only [idleStep, apply_ite (State.withOutside o), ← completePhase_withOutside]
  rfl

theorem sendTxEnd_withOutside : sendTxEnd P L (s.withOutside o) = (sendTxEnd P L s).withOutside o := by
  simp only [sendTxEnd, apply_ite (State.withOutside o), ← completePhase_withOutside]
  rfl

theorem txStep_withOutside : txStep P L (s.withOutside o) = (txStep P L s).withOutside o := by
  simp only [txStep, apply_ite (State.withOutside o), ← completePhase_withOutside, ← sendTxEnd_withOutside]
  rfl

theorem padStep_withOutside : padStep P L (s.withOutside o) = (padStep P L s).withOutside o := by
  simp only [padStep, apply_ite (State.withOutside o), ← completePhase_withOutside]
  rfl

theorem measurePulse_withOutside : measurePulse L (s.withOutside o) = (measurePulse L s).withOutside o := by
  cases h : s.rxSub <;> cases L <;> simp only [measurePulse, withOutside_rxSub, h] <;> rfl

theorem windowTimeout_withOutside : windowTimeout L (s.withOutside o) = (windowTimeout L s).withOutside o := by
  cases L <;> rfl

theorem deliverPulse_withOutside (w : Nat) : deliverPulse w (s.withOutside o) = (deliverPulse w s).withOutside o := by
  cases h : s.rxState <;> simp only [deliverPulse, withOutside_rxState, h]
  case waitSync => simp only [deliverWaitSync, apply_ite (State.withOutside o)]; rfl
  case accumulate => simp only [deliverAccumulate, apply_ite (State.withOutside o)]; rfl
  case done => rfl

/-- The RX tick counts in its two time-outs before it measures (R163, R167, R168). -/
def rxCounted (s : State) : State := { s with rxE := s.rxE + 1, rxW := s.rxW + 1 }

theorem rxCounted_withOutside : rxCounted (s.withOutside o) = (rxCounted s).withOutside o := rfl

/-- The RX step at a tick that completes a pulse (R168). -/
theorem rxMeasure_of_pulse {L : Level} {s : State} {w : Nat} (h : pulseWidth L s = some w) :
    rxMeasure L s = deliverPulse w (measurePulse L (rxCounted s)) := by
  have counted : pulseWidth L { s with rxE := s.rxE + 1, rxW := s.rxW + 1 } = some w := h
  simp only [rxMeasure, counted]
  rfl

/-- The RX step at a tick that completes no pulse (R168). -/
theorem rxMeasure_of_no_pulse {L : Level} {s : State} (h : pulseWidth L s = none) :
    rxMeasure L s =
      if rxPulseTimeoutUs ≤ (measurePulse L (rxCounted s)).rxW then windowTimeout L (measurePulse L (rxCounted s))
      else measurePulse L (rxCounted s) := by
  have counted : pulseWidth L { s with rxE := s.rxE + 1, rxW := s.rxW + 1 } = none := h
  simp only [rxMeasure, counted]
  rfl

theorem rxMeasure_withOutside : rxMeasure L (s.withOutside o) = (rxMeasure L s).withOutside o := by
  have width : pulseWidth L (s.withOutside o) = pulseWidth L s := rfl
  rcases h : pulseWidth L s with _ | w <;> rw [h] at width
  · simp only [rxMeasure_of_no_pulse h, rxMeasure_of_no_pulse width, rxCounted_withOutside,
      measurePulse_withOutside, windowTimeout_withOutside, withOutside_rxW, apply_ite (State.withOutside o)]
  · simp only [rxMeasure_of_pulse h, rxMeasure_of_pulse width, rxCounted_withOutside, measurePulse_withOutside,
      deliverPulse_withOutside]

theorem rxEnd_withOutside : rxEnd (s.withOutside o) = (rxEnd s).withOutside o := by
  simp only [rxEnd, apply_ite (State.withOutside o)]
  rfl

theorem phaseStep_withOutside : phaseStep P L (s.withOutside o) = (phaseStep P L s).withOutside o := by
  cases h : s.phase <;> simp only [phaseStep, withOutside_phase, h]
  case idle => exact idleStep_withOutside o P s
  case tx => exact txStep_withOutside o P L s
  case pad => exact padStep_withOutside o P L s
  case rx => rw [rxStep, rxMeasure_withOutside, rxEnd_withOutside, rxStep]

theorem monitorLine_withOutside :
    monitorLine L (s.withOutside o) = (monitorLine L s).withOutside { o with line := decide (L = .asserted) } := by
  cases L <;> rfl

/-- A tick writes STATUS.LINE and DRIVE, whatever stood there, and does not depend on the other fields outside the
sequencer (R16). -/
theorem tick_withOutside : tick P L (s.withOutside o) =
    (tick P L s).withOutside { o with line := decide (L = .asserted), drive := driveLevel s } := by
  cases h : s.busy
  · rw [tick_of_not_busy P L s h, tick_of_not_busy P L (s.withOutside o) h, monitorLine_withOutside]
    simp [driveLevel, h, State.withOutside]
  · rw [tick_of_busy P L s h, tick_of_busy P L (s.withOutside o) h, monitorLine_withOutside, phaseStep_withOutside]
    simp only [driveLevel, h, true_and]
    rfl

/-- What a tick makes of the fields outside the sequencer. -/
theorem tick_outside : (tick P L s).outside =
    { s.outside with line := decide (L = .asserted), drive := driveLevel s } :=
  congrArg State.outside (tick_withOutside s.outside P L s)

@[simp] theorem tick_line : (tick P L s).line = decide (L = .asserted) := congrArg Outside.line (tick_outside P L s)
@[simp] theorem tick_presc : (tick P L s).presc = s.presc := congrArg Outside.presc (tick_outside P L s)
@[simp] theorem tick_sync1 : (tick P L s).sync1 = s.sync1 := congrArg Outside.sync1 (tick_outside P L s)
@[simp] theorem tick_sync2 : (tick P L s).sync2 = s.sync2 := congrArg Outside.sync2 (tick_outside P L s)
@[simp] theorem tick_drive : (tick P L s).drive = driveLevel s := rfl
@[simp] theorem tick_inputs : (tick P L s).inputs = s.inputs := congrArg Outside.inputs (tick_outside P L s)
@[simp] theorem tick_edge : (tick P L s).edge = s.edge := congrArg Outside.edge (tick_outside P L s)

/-- It makes no difference whether the model's own fields move on before or after the tick. -/
theorem tick_passEdge : tick P L (passEdge s) = passEdge (tick P L s) := by
  have moved := tick_withOutside { s.outside with inputs := s.inputs.tail, edge := s.edge + 1 } P L s
  refine Eq.trans moved ?_
  simp only [passEdge, State.withOutside, State.outside, tick_line, tick_presc, tick_sync1, tick_sync2, tick_drive,
    tick_inputs, tick_edge]

theorem raiseError_outside (c : ErrorCond) : (raiseError c s).outside = s.outside := by
  cases c <;> rfl

theorem nextPhase_outside : (nextPhase s).outside = s.outside :=
  outside_of_commutes nextPhase_withOutside s

theorem accept_outside (op : Op) (arg : BitVec 8) (len : BitVec 6) : (accept op arg len s).outside = s.outside := by
  by_cases h : op = .receive
  · rw [h, accept_receive, nextPhase_outside]; rfl
  · rw [accept_of_ne_receive arg len s h, nextPhase_outside]; rfl

theorem submit_outside (op : Op) (arg : BitVec 8) (len : BitVec 6) : (submit op arg len s).outside = s.outside := by
  obtain ⟨-, h⟩ | ⟨-, -, h⟩ | ⟨-, -, h⟩ := submit_cases op arg len s <;> rw [h]
  · exact raiseError_outside s _
  · exact raiseError_outside s _
  · exact accept_outside s op arg len

theorem submitReserved_outside : (submitReserved s).outside = s.outside := by
  obtain ⟨-, h⟩ | ⟨-, h⟩ := submitReserved_cases s <;> rw [h] <;> exact raiseError_outside s _

theorem writeTxbuf_outside (i : Fin 32) (v : Word) : (writeTxbuf i v s).outside = s.outside := by
  obtain ⟨-, h⟩ | ⟨-, h⟩ := writeTxbuf_cases i v s <;> rw [h]
  · exact raiseError_outside s _
  · rfl

/-- No register write changes a field outside the sequencer (R46, R80, R88, R89). -/
theorem regWrite_outside {r : Reg} {v : Word} {s t : State} (h : regWrite r v s = .next t) :
    t.outside = s.outside := by
  obtain rfl | ⟨-, rfl⟩ | ⟨i, -, rfl⟩ | ⟨-, i, -, -, rfl⟩ | ⟨-, op, -, rfl⟩ := regWrite_cases h
  · rfl
  · rfl
  · exact writeTxbuf_outside s i v
  · exact submit_outside s i.op i.arg i.len
  · exact submitReserved_outside s

end

end Sys2Proof.Machine
end

section
/-! The clock: which edges are ticks, and what an edge does with and without one (10_state.md R12, R13). -/

namespace Sys2Proof.Machine

theorem isTick_iff {P : Config.Params} {s : State} : isTick P s = true ↔ s.presc + 1 = tickDiv P := by
  have := two_le_tickDiv P
  simp only [isTick, beq_iff_eq]
  omega

/-- The block's own part of an edge that is no tick (R12, R13). -/
theorem clockEdge_of_not_tick {P : Config.Params} {s : State} (p : Config.Pins) (h : s.presc + 1 < tickDiv P) :
    clockEdge P p s = { s with presc := s.presc + 1, sync1 := p.lineI, sync2 := s.sync1 } := by
  have quiet : isTick P s = false := Bool.eq_false_iff.mpr fun ht => h.ne (isTick_iff.mp ht)
  simp [clockEdge, quiet, Nat.mod_eq_of_lt h]

/-- The block's own part of an edge that is a tick (R12, R13). -/
theorem clockEdge_of_tick {P : Config.Params} {s : State} (p : Config.Pins) (h : s.presc + 1 = tickDiv P) :
    clockEdge P p s =
      { tick P (lineSample P s) s with presc := 0, sync1 := p.lineI, sync2 := s.sync1 } := by
  simp only [clockEdge, isTick_iff.mpr h, if_true, h, Nat.mod_self]

/-- An edge with neither reset nor a register write is the block's own part (R46). -/
theorem edgeStep_of_no_write {P : Config.Params} {s : State} (hr : (edgePins s).rstN = true)
    (hw : ((edgePins s).busSel && (edgePins s).busWe) = false) :
    edgeStep P s = .next (clockEdge P (edgePins s) (passEdge s)) := by
  simp [edgeStep, hostAccess, hr, hw]

/-- Outside the sequencer, an edge without reset is the block's own part, whatever the host does at it (R46). -/
theorem edgeStep_outside {P : Config.Params} {s t : State} (hr : (edgePins s).rstN = true)
    (h : edgeStep P s = .next t) : t.outside = (clockEdge P (edgePins s) (passEdge s)).outside := by
  obtain ⟨hr', -⟩ | ⟨-, -, rfl⟩ | ⟨-, -, -, hw⟩ := edgeStep_cases h
  · simp [hr] at hr'
  · rfl
  · exact regWrite_outside hw

/-- The sample is asserted exactly when SYNC2 is at the input's active level (R13, R14). -/
theorem lineSample_eq_asserted {P : Config.Params} {s : State} :
    lineSample P s = .asserted ↔ s.sync2 = P.inActiveLevel := by
  simp [lineSample, lineLevel]

/-- Settles O6: an edge without a register write is the block's own part, whose tick commutes with the model's own
fields. -/
theorem tickOccursOncePerTickDivEdges : Obligations.TickOccursOncePerTickDivEdges := by
  refine ⟨rfl, rfl, fun s hr hw => ⟨fun hpresc => ?_, fun hpresc => ?_⟩⟩
  · rw [step, edgeStep_of_no_write hr hw, clockEdge_of_not_tick (s := passEdge s) _ hpresc]
    rfl
  · rw [step, edgeStep_of_no_write hr hw, clockEdge_of_tick (s := passEdge s) _ hpresc, tick_passEdge]
    simp only [passEdge, tick_inputs, tick_edge]
    rfl

/-- Settles O7: no host access reaches the synchroniser or STATUS.LINE, and the tick precedes the synchroniser's
move. -/
theorem synchroniserHasTwoStages : Obligations.SynchroniserHasTwoStages := by
  refine ⟨fun s t hr h => ?_, rfl, rfl, fun s t hr h hpresc => ?_⟩
  · have own := edgeStep_outside hr h
    exact ⟨congrArg Outside.sync1 own, congrArg Outside.sync2 own⟩
  · have hline : t.line = (clockEdge Config.params (edgePins s) (passEdge s)).line :=
      congrArg Outside.line (edgeStep_outside hr h)
    rw [hline, clockEdge_of_tick (s := passEdge s) _ hpresc]
    simp only [tick_line, decide_eq_true_eq]
    exact lineSample_eq_asserted

end Sys2Proof.Machine
end

section
/-! What drives the line (10_state.md R15). -/

namespace Sys2Proof.Machine

/-- The segment form of a waveform and its flattened form agree at every position, past the end too (R120). -/
theorem levelAt_eq_getElem?_flatten (segs : List Segment) (pos : Nat) :
    levelAt segs pos = (flatten segs)[pos]?.getD .released := by
  induction segs generalizing pos with
  | nil => rfl
  | cons g gs ih =>
    have hcons : flatten (g :: gs) = List.replicate g.ticks g.level ++ flatten gs := rfl
    by_cases h : pos < g.ticks
    · simp [levelAt, hcons, h, List.getElem?_append_left]
    · have past : (List.replicate g.ticks g.level).length ≤ pos := by simpa using h
      simp [levelAt, hcons, h, ih, List.getElem?_append_right past]

theorem levelAt_eq_asserted {segs : List Segment} {pos : Nat} :
    levelAt segs pos = .asserted ↔ (flatten segs)[pos]? = some .asserted := by
  rw [levelAt_eq_getElem?_flatten]
  cases (flatten segs)[pos]? <;> simp

/-- A tick drives A only at a TX position where the waveform is A (R15, R16). -/
theorem driveLevel_eq_asserted {s : State} :
    driveLevel s = .asserted ↔
      s.busy = true ∧ s.phase = .tx ∧ (flatten s.txWave)[s.txPos]? = some .asserted := by
  rw [← levelAt_eq_asserted, ← and_assoc]
  by_cases h : s.busy = true ∧ s.phase = .tx <;> simp [driveLevel, h, txLevel]

/-- Settles O46: a tick's drive is `driveLevel`, and no other part of an edge writes DRIVE. -/
theorem theLineIsDrivenOnlyByATxTick : Obligations.TheLineIsDrivenOnlyByATxTick := by
  refine ⟨fun P L s h => driveLevel_eq_asserted.mp h, fun s t hr hpresc h => ?_, fun P s hr => ?_, rfl⟩
  · have own := edgeStep_outside hr h
    rw [clockEdge_of_not_tick (s := passEdge s) _ hpresc] at own
    exact congrArg Outside.drive own
  · simp [lineO, hr]

end Sys2Proof.Machine
end

section
/-! Reserved offsets and reserved fields (10_state.md R19–R29, 20_memory.md R42): the register an offset reaches, the
reserved bits of a register's word, and which bits of a written word a write looks at. -/

namespace Sys2Proof.Machine

/-- The word offsets below TXBUF at which no register stands (R19, R29). -/
theorem fixedReg_reserved {n : Nat} (h : n = 17 ∨ 19 ≤ n) : fixedReg n = .reserved := by
  obtain rfl | h := h
  · rfl
  · obtain ⟨m, rfl⟩ := Nat.exists_eq_add_of_le' h
    rfl

/-- The reserved byte offsets (R29, R42). -/
theorem regOf_reserved {a : BitVec 9}
    (h : (0x044 ≤ a.toNat ∧ a.toNat < 0x048) ∨ (0x04C ≤ a.toNat ∧ a.toNat < 0x100) ∨ 0x1C0 ≤ a.toNat) :
    regOf a = .reserved := by
  have noTxbuf : ¬ (64 ≤ a.toNat / 4 ∧ a.toNat / 4 < 96) := by omega
  have noRxbuf : ¬ (96 ≤ a.toNat / 4 ∧ a.toNat / 4 < 112) := by omega
  simp only [regOf, noTxbuf, noRxbuf, dite_false]
  exact fixedReg_reserved (by omega)

/-- A mask misses a word when it misses both parts of it. -/
theorem append_and_append_eq_zero {n w v : Nat} {x m : BitVec w} {y k : BitVec v} (hn : n = w + v)
    (hx : x &&& m = 0#w) (hy : y &&& k = 0#v) :
    ((x ++ y).cast hn.symm &&& (m ++ k).cast hn.symm : BitVec n) = 0#n := by
  subst hn
  rw [BitVec.cast_eq, BitVec.cast_eq, BitVec.and_append, hx, hy, BitVec.zero_append_zero]

/-- STATUS's reserved bits, in the order of the fields of `statusWord` (R21). -/
theorem statusWord_reserved (P : Config.Params) (s : State) : statusWord P s &&& 0xFFF88008#32 = 0#32 := by
  have mask : 0xFFF88008#32 = 0x1FFF#13 ++ 0#1 ++ 0#1 ++ 0#1 ++ 1#1 ++ 0#3 ++ 0#1 ++ 0#1 ++ 0#1 ++ 0#1 ++ 0#4 ++
    1#1 ++ 0#1 ++ 0#1 ++ 0#1 := by decide
  rw [mask, statusWord]
  repeat' refine append_and_append_eq_zero rfl ?_ ?_
  all_goals simp only [BitVec.and_zero, BitVec.zero_and]

/-- RXSTAT's reserved bits, in the order of the fields of `rxstatWord` (R22). -/
theorem rxstatWord_reserved (s : State) : rxstatWord s &&& 0xFF008CE0#32 = 0#32 := by
  have mask : 0xFF008CE0#32 = 0xFF#8 ++ 0#8 ++ 1#1 ++ 0#3 ++ 3#2 ++ 0#2 ++ 7#3 ++ 0#5 := by decide
  rw [mask, rxstatWord]
  repeat' refine append_and_append_eq_zero rfl ?_ ?_
  all_goals simp only [BitVec.and_zero, BitVec.zero_and]

/-- RXPULSE's reserved bits, in the order of the fields of `rxpulseWord` (R26). -/
theorem rxpulseWord_reserved (s : State) : rxpulseWord s &&& 0xFFF80000#32 = 0#32 := by
  have mask : 0xFFF80000#32 = 0x1FFF#13 ++ 0#3 ++ 0#16 := by decide
  rw [mask, rxpulseWord]
  repeat' refine append_and_append_eq_zero rfl ?_ ?_
  all_goals simp only [BitVec.and_zero, BitVec.zero_and]

/-- A buffer byte leaves bits [31:8] of its register 0 (R27, R28). -/
theorem byteWord_reserved (x : Byte) : x.setWidth 32 &&& 0xFFFFFF00#32 = 0#32 := by
  have word : x.setWidth 32 = 0#24 ++ x := BitVec.setWidth_eq_append (by decide)
  have mask : 0xFFFFFF00#32 = 0xFFFFFF#24 ++ 0#8 := by decide
  rw [word, mask]
  exact append_and_append_eq_zero rfl BitVec.zero_and BitVec.and_zero

/-- Two words that agree under a mask have the same field wherever the mask covers the field. -/
theorem extractLsb'_eq_of_and_eq {w : Nat} {v v' m : BitVec w} {start len : Nat} (h : v &&& m = v' &&& m)
    (covered : m.extractLsb' start len = BitVec.allOnes len) :
    v.extractLsb' start len = v'.extractLsb' start len := by
  have field := congrArg (BitVec.extractLsb' start len) h
  simpa only [BitVec.extractLsb'_and, covered, BitVec.and_allOnes] using field

/-- Two words that agree under a mask agree in every bit of the mask. -/
theorem getLsbD_eq_of_and_eq {w : Nat} {v v' m : BitVec w} {i : Nat} (h : v &&& m = v' &&& m)
    (covered : m.getLsbD i = true) : v.getLsbD i = v'.getLsbD i := by
  have bit := congrArg (BitVec.getLsbD · i) h
  simpa only [BitVec.getLsbD_and, covered, Bool.and_true] using bit

/-- The decoder looks at OP, ARG and LEN only (R61, R62). -/
theorem decodeWord_congr {v v' : Word} (h : v &&& 0x003FFF0F#32 = v' &&& 0x003FFF0F#32) :
    decodeWord v = decodeWord v' := by
  have hop : cmdOp v = cmdOp v' := extractLsb'_eq_of_and_eq h (by decide)
  have harg : cmdArg v = cmdArg v' := extractLsb'_eq_of_and_eq h (by decide)
  have hlen : cmdLen v = cmdLen v' := extractLsb'_eq_of_and_eq h (by decide)
  simp only [decodeWord, hop, harg, hlen]

/-- A STATUS write looks at bits [18:16] only (R88). -/
theorem clearErrors_congr {v v' : Word} (h : v &&& 0x00070000#32 = v' &&& 0x00070000#32) (s : State) :
    clearErrors v s = clearErrors v' s := by
  have hbusy : v.getLsbD 16 = v'.getLsbD 16 := getLsbD_eq_of_and_eq h (by decide)
  have hop : v.getLsbD 17 = v'.getLsbD 17 := getLsbD_eq_of_and_eq h (by decide)
  have hlen : v.getLsbD 18 = v'.getLsbD 18 := getLsbD_eq_of_and_eq h (by decide)
  simp only [clearErrors, hbusy, hop, hlen]

/-- A TXBUF write looks at bits [7:0] only (R89). -/
theorem writeTxbuf_congr {v v' : Word} (h : v &&& 0x000000FF#32 = v' &&& 0x000000FF#32) (i : Fin 32) (s : State) :
    writeTxbuf i v s = writeTxbuf i v' s := by
  have hbyte : v.setWidth 8 = v'.setWidth 8 := by
    simpa only [BitVec.setWidth_eq_extractLsb' (by decide : 8 ≤ 32)] using
      extractLsb'_eq_of_and_eq (start := 0) (len := 8) h (by decide)
  simp only [writeTxbuf, hbyte]

/-- Settles O28, register by register: no register stands at a reserved offset, each register's word has 0 in its
reserved bits, and a write looks at no reserved bit. -/
theorem reservedOffsetsAndFieldsReadZeroIgnoreWrites : Obligations.ReservedOffsetsAndFieldsReadZeroIgnoreWrites := by
  refine ⟨fun P a v s h => ?_, fun P s => ?_, fun v v' s h => ?_, fun v v' s h => ?_, fun i v v' s h => ?_⟩
  · rw [regOf_reserved h]
    exact ⟨rfl, rfl⟩
  · exact ⟨statusWord_reserved P s, rxstatWord_reserved s, rxpulseWord_reserved s,
      fun i => byteWord_reserved s.txbuf[i], fun i => byteWord_reserved s.rxbuf[i]⟩
  · simp only [regWrite, writeCmd, decodeWord_congr h]
  · simp only [regWrite, clearErrors_congr h]
  · simp only [regWrite, writeTxbuf_congr h]

end Sys2Proof.Machine
end

section
/-! The host access (20_memory.md R41–R43): the address it reaches, the order of an edge's parts, and what a read and a
repeated write change. -/

namespace Sys2Proof.Machine

/-- `bus_addr[8:2]` is the word offset (R42). -/
theorem toNat_extractLsb'_two_seven (a : BitVec 9) : (a.extractLsb' 2 7).toNat = a.toNat / 4 := by
  rw [BitVec.extractLsb'_toNat, Nat.shiftRight_eq_div_pow]
  omega

/-- The register that an access reaches is fixed by `bus_addr[8:2]` (R42). -/
theorem regOf_congr {a b : BitVec 9} (h : a.extractLsb' 2 7 = b.extractLsb' 2 7) : regOf a = regOf b := by
  have word : a.toNat / 4 = b.toNat / 4 := by
    rw [← toNat_extractLsb'_two_seven, h, toNat_extractLsb'_two_seven]
  simp only [regOf, word]

/-- Settles O30: the two addresses reach one register. -/
theorem addressLowBitsAreIgnored : Obligations.AddressLowBitsAreIgnored := by
  intro a b h
  have same : regOf a = regOf b := regOf_congr h
  refine ⟨fun P s => ?_, fun v s => ?_, fun p s => ?_⟩
  · rw [same]
  · rw [same]
  · simp only [hostAccess, same]

/-- An access that is a read has no effect (R43). -/
theorem hostAccess_of_read {p : Config.Pins} (s : State) (h : p.busWe = false) : hostAccess p s = .next s := by
  simp [hostAccess, h]

/-- An access that is a write is the register's write (R41). -/
theorem hostAccess_of_write {p : Config.Pins} (s : State) (hsel : p.busSel = true) (hwe : p.busWe = true) :
    hostAccess p s = regWrite (regOf p.busAddr) p.busWdata s := by
  simp [hostAccess, hsel, hwe]

/-- An edge with a read and no reset is the block's own part alone (R43, R46). -/
theorem edgeStep_of_read {P : Config.Params} {s : State} (hr : (edgePins s).rstN = true)
    (h : (edgePins s).busWe = false) : edgeStep P s = .next (clockEdge P (edgePins s) (passEdge s)) :=
  edgeStep_of_no_write hr (by rw [h, Bool.and_false])

/-- Settles O8: `bus_rdata` looks at the state before the edge, a write at the state after the edge's own part. -/
theorem anEdgeReadsThenTicksThenWrites : Obligations.AnEdgeReadsThenTicksThenWrites := by
  refine ⟨fun P s hsel => ?_, fun P s hr hsel hwe => ?_, fun s hr _ hwe => ?_, fun s hr hsel hwe => ?_⟩
  · simp [busRdata, hsel]
  · simp [busRdata, hr, hsel, hwe]
  · exact edgeStep_of_read hr hwe
  · rw [step, edgeStep, if_pos hr, hostAccess_of_write _ hsel hwe]

/-- No register shows the prescaler, the synchroniser or the model's own fields (R30, R90). -/
theorem regRead_clockEdge_of_not_tick {P : Config.Params} {s : State} (p : Config.Pins) (r : Reg)
    (h : s.presc + 1 < tickDiv P) : regRead P r (clockEdge P p (passEdge s)) = regRead P r s := by
  rw [clockEdge_of_not_tick (s := passEdge s) p h]
  cases r <;> rfl

/-- Only CMD, STATUS and TXBUF can be written (R29, R43). -/
theorem regWrite_of_not_writable {r : Reg} (v : Word) (s : State) (hcmd : r ≠ .cmd) (hstatus : r ≠ .status)
    (htxbuf : ∀ i, r ≠ .txbuf i) : regWrite r v s = .next s := by
  cases r
  case cmd => exact absurd rfl hcmd
  case status => exact absurd rfl hstatus
  case txbuf i => exact absurd rfl (htxbuf i)
  all_goals rfl

/-- A flag that a STATUS write has cleared or kept stays so when the write is repeated (R43, R88). -/
theorem clearErrors_idem (v : Word) (s : State) : clearErrors v (clearErrors v s) = clearErrors v s := by
  simp [clearErrors]

/-- A TXBUF write that was dropped is dropped again, and one that took effect stores the same byte again (R43, R89). -/
theorem writeTxbuf_idem (i : Fin 32) (v : Word) (s : State) :
    writeTxbuf i v (writeTxbuf i v s) = writeTxbuf i v s := by
  obtain ⟨locked, h⟩ | ⟨unlocked, h⟩ := writeTxbuf_cases i v s <;> rw [h]
  · have still : txbufLocked (raiseError .busy s) = true := locked
    simp only [writeTxbuf, still, if_true]
    rfl
  · have still : txbufLocked { s with txbuf := s.txbuf.set i (v.setWidth 8) } = false := unlocked
    simp [writeTxbuf, still]

/-- The CMD write of a command other than NOP goes through the checks of R80. -/
theorem writeCmd_of_ok {v : Word} {i : Instr} (s : State) (h : decodeWord v = .ok i) (hop : i.op ≠ .nop) :
    writeCmd v s = .next (submit i.op i.arg i.len s) := by
  simp only [writeCmd, h]
  cases i
  case nop => exact absurd rfl hop
  all_goals rfl

/-- While a command runs, the CMD write of another is dropped with ERR_BUSY (R80, R201). -/
theorem submit_of_busy {s : State} (op : Op) (arg : BitVec 8) (len : BitVec 6) (h : s.busy = true) :
    submit op arg len s = { s with errBusy := true } := by
  simp [submit, h, raiseError]

/-- A CMD write after which a command runs, when none ran before, was accepted, so it was no NOP and no reserved
opcode (R80, R82). -/
theorem cmdWrite_starts_command {v : Word} {s t : State} (idle : s.busy = false)
    (h : regWrite .cmd v s = .next t) (busy : t.busy = true) :
    ∃ i, decodeWord v = .ok i ∧ i.op ≠ .nop := by
  obtain rfl | ⟨hr, -⟩ | ⟨_, hr, -⟩ | ⟨-, i, hi, hop, -⟩ | ⟨-, _, -, rfl⟩ := regWrite_cases h
  · simp [idle] at busy
  · cases hr
  · cases hr
  · exact ⟨i, hi, hop⟩
  · obtain ⟨-, dropped⟩ | ⟨-, dropped⟩ := submitReserved_cases s <;> simp [dropped, idle] at busy

/-- Settles O31, by kind of access: a read, a write that is ignored, a repeated STATUS or TXBUF write, and a repeated
CMD write, which the checks of R80 meet with the command running. -/
theorem readsHaveNoSideEffectsAndWritesRepeatAsStated :
    Obligations.ReadsHaveNoSideEffectsAndWritesRepeatAsStated := by
  refine ⟨fun p s h => hostAccess_of_read s h, fun s hr _ hwe hpresc => ?_,
    fun r v s hcmd hstatus htxbuf => regWrite_of_not_writable v s hcmd hstatus htxbuf, fun r v s hr => ?_,
    fun v s t idle h busy => ?_⟩
  · exact ⟨_, edgeStep_of_read hr hwe, fun r => regRead_clockEdge_of_not_tick _ r hpresc⟩
  · obtain rfl | ⟨i, rfl⟩ := hr
    · exact ⟨clearErrors v s, rfl, congrArg Host.Outcome.next (clearErrors_idem v s)⟩
    · exact ⟨writeTxbuf i v s, rfl, congrArg Host.Outcome.next (writeTxbuf_idem i v s)⟩
  · obtain ⟨i, hi, hop⟩ := cmdWrite_starts_command idle h busy
    rw [regWrite, writeCmd_of_ok t hi hop, submit_of_busy i.op i.arg i.len busy]

end Sys2Proof.Machine
end

section
/-! The CMD word (30_encoding.md R60–R62): what a word given field by field decodes to, and which of its fields a CMD
write looks at. -/

namespace Sys2Proof

/-- The reserved bits decide nothing: a word decodes as the word with other reserved bits does (R61, R62). -/
theorem decodeWord_cmdWord_reserved (hi hi' : BitVec 10) (lo lo' : BitVec 4) (len : BitVec 6) (arg : BitVec 8)
    (op : BitVec 4) : decodeWord (cmdWord hi len arg lo op) = decodeWord (cmdWord hi' len arg lo' op) := by
  simp only [decodeWord, cmdOp_cmdWord, cmdArg_cmdWord, cmdLen_cmdWord]

/-- A word with a command's OP, ARG and LEN decodes to the command, whatever its reserved bits (R61, R62, R65). -/
theorem decodeWord_cmdWord_opCode (hi : BitVec 10) (lo : BitVec 4) (i : Instr) :
    decodeWord (cmdWord hi i.len i.arg lo (opCode i.op)) = .ok i := by
  simp only [decodeWord, cmdOp_cmdWord, cmdArg_cmdWord, cmdLen_cmdWord]
  cases i <;> rfl

end Sys2Proof

namespace Sys2Proof.Machine

/-- A CMD write looks at nothing of its word but what the word decodes to (R80). -/
theorem regWrite_cmd_congr {v v' : Word} (h : decodeWord v = decodeWord v') (s : State) :
    regWrite .cmd v s = regWrite .cmd v' s := by
  simp only [regWrite, writeCmd, h]

/-- While no command runs, the CMD write of a command with an illegal LEN is dropped with ERR_LEN (R80, R203). -/
theorem submit_of_illegal_len {s : State} {op : Op} (arg : BitVec 8) {len : BitVec 6} (idle : s.busy = false)
    (illegal : legalLen op len = false) : submit op arg len s = { s with errLen := true } := by
  simp [submit, idle, illegal, raiseError]

/-- LEN 0 is illegal for SEND (R67). -/
theorem legalLen_send_zero : legalLen .send 0#6 = false := by decide

/-- While no command runs, a CMD write that decodes to SEND with LEN 0 sets ERR_LEN only (R67, R203). -/
theorem regWrite_cmd_send_zero {v : Word} {s : State} (h : decodeWord v = .ok (.send 0#8 0#6))
    (idle : s.busy = false) : regWrite .cmd v s = .next { s with errLen := true } := by
  rw [regWrite, writeCmd_of_ok s h (by decide)]
  exact congrArg Host.Outcome.next (submit_of_illegal_len 0#8 idle legalLen_send_zero)

/-- Settles O3: a CMD write looks at what its word decodes to, and decoding at no reserved bit; the two example words
are SEND with LEN 0 under two values of the reserved bits. -/
theorem reservedCmdBitsHaveNoEffect : Obligations.ReservedCmdBitsHaveNoEffect := by
  have reservedZeros : decodeWord 0x00000005#32 = .ok (.send 0#8 0#6) :=
    decodeWord_cmdWord_opCode 0x000#10 0x0#4 (.send 0#8 0#6)
  have reservedOnes : decodeWord 0xFFC000F5#32 = .ok (.send 0#8 0#6) :=
    decodeWord_cmdWord_opCode 0x3FF#10 0xF#4 (.send 0#8 0#6)
  exact ⟨fun hi hi' lo lo' len arg op s => regWrite_cmd_congr (decodeWord_cmdWord_reserved hi hi' lo lo' len arg op) s,
    reservedZeros, reservedOnes, legalLen_send_zero,
    fun _ idle => ⟨regWrite_cmd_send_zero reservedZeros idle, regWrite_cmd_send_zero reservedOnes idle⟩⟩

end Sys2Proof.Machine
end

section
/-! A CMD write by the OP field of its word (40_command_interface.md R80, R84): NOP, one of the six commands that go
through the checks, or a reserved opcode. -/

namespace Sys2Proof

/-- OP codes 7 and up are reserved (R65, R66). -/
theorem opCode_toNat_le (o : Op) : (opCode o).toNat ≤ 6 := by
  cases o <;> decide

/-- 0 is the code of NOP alone (R65). -/
theorem opCode_eq_zero {o : Op} : opCode o = 0#4 ↔ o = .nop := by
  cases o <;> decide

/-- LEN's legality, by the code of the opcode (R67). -/
theorem legalLen_iff {o : Op} {len : BitVec 6} : legalLen o len = true ↔
    (opCode o = 4#4 → 1 ≤ len.toNat ∧ len.toNat ≤ 32) ∧ (opCode o = 5#4 → 2 ≤ len.toNat ∧ len.toNat ≤ 4) ∧
      (opCode o = 6#4 → len.toNat ≤ 16) := by
  cases o <;> simp [legalLen, opCode]

/-- A word decodes, or its OP is reserved (R65, R66). -/
theorem decodeWord_cases (v : Word) :
    (∃ i, decodeWord v = .ok i) ∨
    (7 ≤ (cmdOp v).toNat ∧ decodeWord v = .error (.reservedOp (cmdOp v))) := by
  unfold decodeWord
  split
  case h_8 =>
    refine .inr ⟨?_, rfl⟩
    simp only [imp_false] at *
    bv_omega
  all_goals exact .inl ⟨_, rfl⟩

/-- OP 0 to 6 decodes to the command with that code and the word's ARG and LEN (R61, R65). -/
theorem decodeWord_of_op_le {v : Word} (h : (cmdOp v).toNat ≤ 6) :
    ∃ i, decodeWord v = .ok i ∧ opCode i.op = cmdOp v ∧ i.arg = cmdArg v ∧ i.len = cmdLen v := by
  obtain ⟨i, hi⟩ | ⟨reserved, -⟩ := decodeWord_cases v
  · obtain ⟨hop, harg, hlen⟩ := decodeWord_ok_fields hi
    exact ⟨i, hi, hop.symm, harg.symm, hlen.symm⟩
  · omega

/-- OP 7 to 15 does not decode (R66). -/
theorem decodeWord_of_op_ge {v : Word} (h : 7 ≤ (cmdOp v).toNat) :
    decodeWord v = .error (.reservedOp (cmdOp v)) := by
  obtain ⟨i, hi⟩ | ⟨-, reserved⟩ := decodeWord_cases v
  · have le := opCode_toNat_le i.op
    rw [← (decodeWord_ok_fields hi).1] at le
    omega
  · exact reserved

end Sys2Proof

namespace Sys2Proof.Machine

/-- NOP's write changes nothing (R84). -/
theorem exec_nop (arg : BitVec 8) (len : BitVec 6) (s : State) : exec (.nop arg len) s = .next s := rfl

/-- A CMD write with OP 0 changes nothing, whatever the word's other bits (R80, R84). -/
theorem regWrite_cmd_of_op_zero {v : Word} (h : cmdOp v = 0#4) (s : State) : regWrite .cmd v s = .next s := by
  have word : decodeWord v = .ok (.nop (cmdArg v) (cmdLen v)) := by simp only [decodeWord, h]
  simp only [regWrite, writeCmd, word, exec_nop]

/-- A CMD write with OP 1 to 6 submits the command with that code, with the word's ARG and LEN (R80). -/
theorem regWrite_cmd_of_command {v : Word} (pos : 1 ≤ (cmdOp v).toNat) (le : (cmdOp v).toNat ≤ 6) :
    ∃ o, opCode o = cmdOp v ∧ ∀ s, regWrite .cmd v s = .next (submit o (cmdArg v) (cmdLen v) s) := by
  obtain ⟨i, hi, hop, harg, hlen⟩ := decodeWord_of_op_le le
  have command : i.op ≠ .nop := fun nop => by
    rw [← hop, opCode_eq_zero.mpr nop] at pos
    exact absurd pos (by decide)
  refine ⟨i.op, hop, fun s => ?_⟩
  rw [regWrite, writeCmd_of_ok s hi command, harg, hlen]

/-- A CMD write with OP 7 to 15 is that of a reserved opcode (R66, R80). -/
theorem regWrite_cmd_of_reserved {v : Word} (h : 7 ≤ (cmdOp v).toNat) (s : State) :
    regWrite .cmd v s = .next (submitReserved s) := by
  simp only [regWrite, writeCmd, decodeWord_of_op_ge h]

/-- While a command runs, the CMD write of a reserved opcode is dropped with ERR_BUSY (R80, R204). -/
theorem submitReserved_of_busy {s : State} (h : s.busy = true) : submitReserved s = { s with errBusy := true } := by
  simp [submitReserved, h, raiseError]

/-- While no command runs, the CMD write of a reserved opcode is dropped with ERR_OP (R80, R202). -/
theorem submitReserved_of_idle {s : State} (idle : s.busy = false) :
    submitReserved s = { s with errOp := true } := by
  simp [submitReserved, idle, raiseError]

/-- While no command runs, the CMD write of a command with a legal LEN is accepted (R80). -/
theorem submit_of_legal_len {s : State} {op : Op} (arg : BitVec 8) {len : BitVec 6} (idle : s.busy = false)
    (legal : legalLen op len = true) : submit op arg len s = accept op arg len s := by
  simp [submit, idle, legal]

/-- While a command runs, every CMD write but NOP's is dropped with ERR_BUSY, before any other check (R80, R201). -/
theorem regWrite_cmd_of_busy {v : Word} {s : State} (hop : cmdOp v ≠ 0#4) (busy : s.busy = true) :
    regWrite .cmd v s = .next { s with errBusy := true } := by
  obtain le | reserved : (cmdOp v).toNat ≤ 6 ∨ 7 ≤ (cmdOp v).toNat := by omega
  · obtain ⟨o, -, write⟩ := regWrite_cmd_of_command (by bv_omega) le
    rw [write, submit_of_busy o _ _ busy]
  · rw [regWrite_cmd_of_reserved reserved, submitReserved_of_busy busy]

/-- Settles O15: as a command, and as a word whose OP is 0. -/
theorem nopChangesNothing : Obligations.NopChangesNothing :=
  ⟨exec_nop, fun _ s h => regWrite_cmd_of_op_zero h s⟩

/-- Settles O22, by R80's order: OP 0, BUSY, a reserved OP, and then LEN, whose legality depends on the OP's code. -/
theorem cmdWriteMakesTheChecksInOrder : Obligations.CmdWriteMakesTheChecksInOrder := by
  intro v s op arg len legal
  refine ⟨fun zero => regWrite_cmd_of_op_zero zero s, fun hop busy => regWrite_cmd_of_busy hop busy,
    fun idle reserved => ?_, fun idle pos le illegal => ?_, fun idle pos le isLegal => ?_⟩
  · rw [regWrite_cmd_of_reserved reserved, submitReserved_of_idle idle]
  · obtain ⟨o, ho, write⟩ := regWrite_cmd_of_command pos le
    have illegalLen_o : legalLen o len = false := by
      rw [← Bool.not_eq_true, legalLen_iff, ho]
      exact illegal
    exact (write s).trans (congrArg _ (submit_of_illegal_len arg idle illegalLen_o))
  · obtain ⟨o, ho, write⟩ := regWrite_cmd_of_command pos le
    have legalLen_o : legalLen o len = true := by
      rw [legalLen_iff, ho]
      exact isLegal
    exact ⟨o, ho, (write s).trans (congrArg _ (submit_of_legal_len arg idle legalLen_o))⟩

end Sys2Proof.Machine
end

section
/-! The writes of STATUS and TXBUF (40_command_interface.md R88, R89), and the buffer bytes' offsets (10_state.md R19).
-/

namespace Sys2Proof.Machine

/-- Write 1 to clear: what a STATUS write leaves of a flag, by the written bit (R88). -/
theorem and_not_eq_ite (flag b : Bool) : (flag && !b) = if b then false else flag := by
  cases b <;> simp

/-- Settles O26, flag by flag. -/
theorem statusWriteClearsTheNamedErrors : Obligations.StatusWriteClearsTheNamedErrors := by
  intro v s
  simp only [regWrite, clearErrors, and_not_eq_ite]

/-- TXBUF is locked exactly while TX_FRAME or SEND runs (R89). -/
theorem txbufLocked_iff {s : State} :
    txbufLocked s = true ↔ s.busy = true ∧ (s.curOp = .txFrame ∨ s.curOp = .send) := by
  simp [txbufLocked]

/-- TXBUF[i] is at offset 0x100 + 4·i (R19). -/
theorem regOf_txbuf (i : Fin 32) : regOf (BitVec.ofNat 9 (0x100 + 4 * i.val)) = .txbuf i := by
  have word : (BitVec.ofNat 9 (0x100 + 4 * i.val)).toNat / 4 = 64 + i.val := by
    rw [BitVec.toNat_ofNat]
    omega
  have inside : 64 ≤ 64 + i.val ∧ 64 + i.val < 96 := by omega
  simp only [regOf, word, inside, and_self, dite_true, Nat.add_sub_cancel_left]

/-- RXBUF[i] is at offset 0x180 + 4·i (R19). -/
theorem regOf_rxbuf (i : Fin 16) : regOf (BitVec.ofNat 9 (0x180 + 4 * i.val)) = .rxbuf i := by
  have word : (BitVec.ofNat 9 (0x180 + 4 * i.val)).toNat / 4 = 96 + i.val := by
    rw [BitVec.toNat_ofNat]
    omega
  have above : ¬ (64 ≤ 96 + i.val ∧ 96 + i.val < 96) := by omega
  have inside : 96 ≤ 96 + i.val ∧ 96 + i.val < 112 := by omega
  simp only [regOf, word, above, inside, and_self, dite_true, dite_false, Nat.add_sub_cancel_left]

/-- Settles O27: the offset is TXBUF[i]'s, and its write is dropped exactly when TXBUF is locked. -/
theorem txbufWriteTakesEffectUnlessAFrameRuns : Obligations.TxbufWriteTakesEffectUnlessAFrameRuns := by
  intro i v s off
  rw [regOf_txbuf i, regWrite, ← txbufLocked_iff]
  obtain ⟨locked, write⟩ | ⟨unlocked, write⟩ := writeTxbuf_cases i v s <;> rw [write]
  · exact ⟨fun _ => rfl, fun free => absurd locked free⟩
  · refine ⟨fun locked => ?_, fun _ => ?_⟩
    · simp [unlocked] at locked
    · rw [BitVec.setWidth_eq_extractLsb' (by decide)]

end Sys2Proof.Machine
end

section
/-! What a register reads (40_command_interface.md R90): the fields of STATUS, RXSTAT and RXPULSE, and the registers that
hold a number. -/

namespace Sys2Proof.Machine

/-- STATUS's fields of one bit, and its reserved bits 3 and 15 (R21). -/
theorem statusWord_bits (P : Config.Params) (s : State) :
    (statusWord P s).getLsbD 0 = s.busy ∧ (statusWord P s).getLsbD 1 = s.line ∧
    (statusWord P s).getLsbD 2 = lineIdle P s ∧ (statusWord P s).getLsbD 3 = false ∧
    (statusWord P s).getLsbD 8 = s.done ∧ (statusWord P s).getLsbD 9 = s.rxTimeout ∧
    (statusWord P s).getLsbD 10 = s.idleTimeout ∧ (statusWord P s).getLsbD 11 = s.padEarly ∧
    (statusWord P s).getLsbD 15 = false ∧ (statusWord P s).getLsbD 16 = s.errBusy ∧
    (statusWord P s).getLsbD 17 = s.errOp ∧ (statusWord P s).getLsbD 18 = s.errLen := by
  simp only [statusWord, BitVec.getLsbD_append, bit, BitVec.getLsbD_ofBool]
  simp

/-- STATUS's fields of several bits (R21). -/
theorem statusWord_fields (P : Config.Params) (s : State) :
    (statusWord P s).extractLsb' 4 4 = opCode s.curOp ∧ (statusWord P s).extractLsb' 12 3 = phaseCode s.phase ∧
    (statusWord P s).extractLsb' 19 13 = 0#13 := by
  simp (disch := decide) only [statusWord, BitVec.extractLsb'_append_eq_of_le,
    BitVec.extractLsb'_append_eq_of_add_le, Nat.reduceSub, BitVec.extractLsb'_eq_self, and_self]

/-- RXSTAT's fields (R22). -/
theorem rxstatWord_fields (s : State) :
    (rxstatWord s).extractLsb' 0 5 = s.rxCount ∧ (rxstatWord s).extractLsb' 5 3 = 0#3 ∧
    (rxstatWord s).extractLsb' 8 2 = rxStateCode s.rxState ∧ (rxstatWord s).extractLsb' 10 2 = 0#2 ∧
    (rxstatWord s).extractLsb' 12 3 = s.rxBitIdx ∧ (rxstatWord s).getLsbD 15 = false ∧
    (rxstatWord s).extractLsb' 16 8 = s.rxAcc ∧ (rxstatWord s).extractLsb' 24 8 = 0#8 := by
  have bit15 : (rxstatWord s).getLsbD 15 = false := by
    simp only [rxstatWord, BitVec.getLsbD_append]
    simp
  rw [bit15]
  simp (disch := decide) only [rxstatWord, BitVec.extractLsb'_append_eq_of_le,
    BitVec.extractLsb'_append_eq_of_add_le, Nat.reduceSub, BitVec.extractLsb'_eq_self, and_self]

/-- RXPULSE's fields (R26). -/
theorem rxpulseWord_fields (s : State) :
    (rxpulseWord s).extractLsb' 0 16 = s.lastWidth ∧
    (rxpulseWord s).extractLsb' 16 3 = pulseClassCode s.lastClass ∧
    (rxpulseWord s).extractLsb' 19 13 = 0#13 := by
  simp (disch := decide) only [rxpulseWord, BitVec.extractLsb'_append_eq_of_le,
    BitVec.extractLsb'_append_eq_of_add_le, Nat.reduceSub, BitVec.extractLsb'_eq_self, and_self]

/-- A register holds every number of 32 bits (R6, R24). -/
theorem word32_toNat {n : Nat} (h : n < 2 ^ 32) : (word32 n).toNat = n := by
  rw [word32, BitVec.toNat_ofNat, Nat.mod_eq_of_lt h]

/-- Settles O29, offset by offset: the register at each, and the fields or the number it reads. -/
theorem regReadReturnsTheRegisterAtTheOffset : Obligations.RegReadReturnsTheRegisterAtTheOffset := by
  intro P s rd st rs pu
  obtain ⟨busy, line, idle, bit3, done, rxTimeout, idleTimeout, padEarly, bit15, errBusy, errOp, errLen⟩ :=
    statusWord_bits P s
  obtain ⟨curOp, phase, statusHigh⟩ := statusWord_fields P s
  obtain ⟨rxCount, rsMid, rxState, rsMid', rxBitIdx, rsBit15, rxAcc, rsHigh⟩ := rxstatWord_fields s
  obtain ⟨lastWidth, lastClass, pulseHigh⟩ := rxpulseWord_fields s
  have hst : st = statusWord P s := rfl
  have hrs : rs = rxstatWord s := rfl
  have hpu : pu = rxpulseWord s := rfl
  rw [hst, hrs, hpu]
  refine ⟨rfl,
    ⟨busy, line, idle, bit3, curOp, done, rxTimeout, idleTimeout, padEarly, ?phase, bit15, errBusy, errOp, errLen,
      statusHigh⟩,
    ⟨rxCount, rsMid, ?rxState, rsMid', rxBitIdx, rsBit15, rxAcc, rsHigh⟩, ⟨lastWidth, ?lastClass, pulseHigh⟩,
    rfl, rfl, rfl, rfl, rfl, word32_toNat P.wordGap_lt, word32_toNat P.lineReady_lt, word32_toNat P.idlePoll_lt,
    word32_toNat P.idleTotal_lt, rfl, rfl, rfl, rfl, rfl, fun i => ?txbuf, fun i => ?rxbuf, fun n hn h => ?reserved⟩
  case phase =>
    rw [phase]
    cases s.phase <;> rfl
  case rxState =>
    rw [rxState]
    cases s.rxState <;> rfl
  case lastClass =>
    rw [lastClass]
    cases s.lastClass <;> rfl
  case txbuf => exact congrArg (regRead P · s) (regOf_txbuf i)
  case rxbuf => exact congrArg (regRead P · s) (regOf_rxbuf i)
  case reserved =>
    have offset : (BitVec.ofNat 9 n).toNat = n := by rw [BitVec.toNat_ofNat, Nat.mod_eq_of_lt hn]
    exact congrArg (regRead P · s) (regOf_reserved (by rw [offset]; omega))

end Sys2Proof.Machine
end

section
/-! The line-idle monitor (41_line_monitor.md R100): a phase step neither reads past nor writes IDLE_CNT, so a tick's
whole effect on it is the monitor's, and a run of ticks counts its released samples. -/

namespace Sys2Proof.Machine

theorem sat32_toNat (v : Nat) : (sat32 v).toNat = min v (2 ^ 32 - 1) := by
  rw [sat32, BitVec.toNat_ofNat, Nat.mod_eq_of_lt (by omega)]

@[simp] theorem completePhase_idleCnt (s : State) : (completePhase s).idleCnt = s.idleCnt := by
  obtain ⟨-, h⟩ | ⟨p, ps, -, h⟩ := completePhase_cases s <;> simp [h]

section
variable (P : Config.Params) (L : Level) (s : State)

@[simp] theorem idleStep_idleCnt : (idleStep P s).idleCnt = s.idleCnt := by
  obtain ⟨h, -⟩ | ⟨-, -, h⟩ | ⟨-, -, -, h⟩ := idleStep_cases P s <;> simp [h]

@[simp] theorem sendTxEnd_idleCnt : (sendTxEnd P L s).idleCnt = s.idleCnt := by
  obtain ⟨-, h⟩ | ⟨-, -, h⟩ | ⟨-, -, h⟩ := sendTxEnd_cases P L s <;> simp [h]

@[simp] theorem txStep_idleCnt : (txStep P L s).idleCnt = s.idleCnt := by
  obtain ⟨-, h⟩ | ⟨-, -, h⟩ | ⟨-, -, h⟩ := txStep_cases P L s <;> simp [h]

@[simp] theorem padStep_idleCnt : (padStep P L s).idleCnt = s.idleCnt := by
  obtain ⟨h, -⟩ | ⟨-, -, h⟩ | ⟨-, -, -, h⟩ := padStep_cases P L s <;> simp [h]

@[simp] theorem measurePulse_idleCnt : (measurePulse L s).idleCnt = s.idleCnt := by
  rw [measurePulse_eq]

@[simp] theorem rxMeasure_idleCnt : (rxMeasure L s).idleCnt = s.idleCnt := by
  obtain ⟨-, -, h⟩ | ⟨-, -, h⟩ | ⟨-, -, h⟩ := rxMeasure_cases L s <;> rw [h]
  · rw [deliverPulse_eq, measurePulse_idleCnt]
  · rw [windowTimeout_eq, measurePulse_idleCnt]
  · exact measurePulse_idleCnt L _

@[simp] theorem rxStep_idleCnt : (rxStep L s).idleCnt = s.idleCnt := by
  obtain ⟨-, h⟩ | ⟨-, -, h⟩ | ⟨-, -, h⟩ := rxEnd_cases (rxMeasure L s) <;> simp [rxStep, h]

@[simp] theorem phaseStep_idleCnt : (phaseStep P L s).idleCnt = s.idleCnt := by
  unfold phaseStep
  split
  · exact idleStep_idleCnt P s
  · exact txStep_idleCnt P L s
  · exact padStep_idleCnt P L s
  · exact rxStep_idleCnt L s
  · rfl

/-- IDLE_CNT after a tick is what the monitor made of it, whatever runs (R16, R100). -/
@[simp] theorem tick_idleCnt : (tick P L s).idleCnt = (monitorLine L s).idleCnt := by
  cases h : s.busy
  · rw [tick_of_not_busy P L s h]
  · rw [tick_of_busy P L s h]
    exact phaseStep_idleCnt P L _

/-- A released sample counts, up to the cap (R100). -/
theorem tick_released_idleCnt_toNat :
    (tick P .released s).idleCnt.toNat = min (s.idleCnt.toNat + 1) (2 ^ 32 - 1) := by
  simp [sat32_toNat]

/-- An asserted sample starts the count again (R100). -/
theorem tick_asserted_idleCnt : (tick P .asserted s).idleCnt = 0#32 := by simp

end

/-- From a count of 0, `m` ticks with released samples make it `m`, up to the cap (R100). -/
theorem afterTicks_idleCnt_of_released {P : Config.Params} {L : Nat → Level} {s : State} {i : Nat}
    (zero : (afterTicks P L i s).idleCnt = 0#32) (m : Nat) (released : ∀ j, i < j → j ≤ i + m → L j = .released) :
    (afterTicks P L (i + m) s).idleCnt.toNat = min m (2 ^ 32 - 1) := by
  induction m with
  | zero => simp [zero]
  | succ m ih =>
    have sample : L (i + m + 1) = .released := released _ (by omega) (by omega)
    have before := ih fun j hj hm => released j hj (by omega)
    rw [← Nat.add_assoc, afterTicks, sample, tick_released_idleCnt_toNat, before]
    omega

/-- A tick in the IDLE phase is the monitor and then an IDLE step, with R driven (R16, R102). -/
theorem tick_of_idle_phase (P : Config.Params) (L : Level) {s : State} (busy : s.busy = true)
    (idle : s.phase = .idle) :
    tick P L s = { idleStep P (monitorLine L s) with drive := .released } := by
  rw [tick_of_busy P L s busy]
  simp [phaseStep, idle]

/-- A phase that follows another starts at k = 0, even were it IDLE again (R85, R86). -/
theorem completePhase_k_of_idle {s : State} (h : (completePhase s).phase = .idle) : (completePhase s).k = 0 := by
  obtain ⟨-, done⟩ | ⟨p, ps, -, started⟩ := completePhase_cases s
  · simp [done] at h
  · rw [started, startPhase_k]

/-- A poll tick that leaves the IDLE phase running has seen, in its own count, a line that is not idle (R100, R102). -/
theorem tick_idleCnt_lt_of_idle_poll {P : Config.Params} {L : Level} {s : State} (still : (tick P L s).phase = .idle)
    (idle : s.phase = .idle) (busy : s.busy = true) (poll : s.k % P.idlePollUs = 0)
    (counted : (tick P L s).k = s.k + 1) : (tick P L s).idleCnt.toNat < P.lineReadyUs := by
  rw [tick_idleCnt]
  rw [tick_of_idle_phase P L busy idle] at still counted
  obtain ⟨-, noPoll | ⟨notIdle, -⟩⟩ | ⟨-, -, ended⟩ | ⟨-, notIdle, -⟩ := idleStep_cases P (monitorLine L s)
  · exact absurd poll (by simpa using noPoll)
  · exact notIdle
  · rw [ended] at still counted
    have restarted := completePhase_k_of_idle still
    exact absurd (restarted.symm.trans counted) (Nat.succ_ne_zero _).symm
  · exact notIdle

/-- Settles O35: the tick law is the monitor's, and a run of released samples is counted from its asserted sample, or
from a count of 0. -/
theorem idleCntCountsConsecutiveReleasedSamples : Obligations.IdleCntCountsConsecutiveReleasedSamples := by
  refine ⟨fun P L s => ?_, fun P L s n m hm asserted released => ?_, fun P L s n released zero => ?_,
    fun P L s still idle busy poll counted => tick_idleCnt_lt_of_idle_poll still idle busy poll counted⟩
  · cases L
    · rw [tick_asserted_idleCnt]
      rfl
    · exact tick_released_idleCnt_toNat P s
  · obtain ⟨i, rfl⟩ := Nat.exists_eq_add_of_lt hm
    have start : m + i + 1 - m = i + 1 := by omega
    have stop : m + i + 1 = i + 1 + m := by omega
    rw [start] at asserted released
    rw [stop] at released ⊢
    refine afterTicks_idleCnt_of_released ?_ m released
    rw [afterTicks, asserted, tick_asserted_idleCnt]
  · have run := afterTicks_idleCnt_of_released (P := P) (L := L) (i := 0) zero n fun j hj hn =>
      released j hj (by omega)
    rwa [Nat.zero_add] at run

end Sys2Proof.Machine
end

section
/-! The IDLE phase of WAIT_IDLE and SEND (41_line_monitor.md R102–R105): what holds in it, what one of its ticks can do,
and how it ends. -/

namespace Sys2Proof.Machine

/-- `op` is in its IDLE phase, `k` ticks of which have passed (R83, R85, R102). -/
structure InIdlePhase (op : Op) (k : Nat) (s : State) : Prop where
  busy : s.busy = true
  curOp : s.curOp = op
  phases : s.phases = phaseList op
  phase : s.phase = .idle
  ticks : s.k = k

/-- `op` has just completed its IDLE phase: SEND is in its TX phase, WAIT_IDLE has finished (R83, R86, R87). -/
structure IdlePhaseEnded (op : Op) (s : State) : Prop where
  busy : s.busy = true ↔ op = .send
  done : op ≠ .send → s.done = true
  phase : s.phase = if op = .send then .tx else .none

/-- The commands that have an IDLE phase (R83). -/
def HasIdlePhase (op : Op) : Prop := op = .waitIdle ∨ op = .send

/-- Completing the IDLE phase ends it as `IdlePhaseEnded` says (R86). -/
theorem completePhase_ends_idle {op : Op} {s : State} (hop : HasIdlePhase op) (busy : s.busy = true)
    (phases : s.phases = phaseList op) : IdlePhaseEnded op (completePhase s) := by
  obtain rfl | rfl := hop
  · have finished : completePhase s = finish { s with phases := [] } := by
      simp [completePhase, nextPhase, phases, phaseList]
    rw [finished]
    exact ⟨by simp, fun _ => rfl, rfl⟩
  · have sending : completePhase s = startPhase .tx { s with phases := [.tx, .pad] } := by
      simp [completePhase, nextPhase, phases, phaseList]
    rw [sending]
    exact ⟨by simp [busy], fun h => absurd rfl h, rfl⟩

@[simp] theorem completePhase_idleTimeout (s : State) : (completePhase s).idleTimeout = s.idleTimeout := by
  obtain ⟨-, h⟩ | ⟨p, ps, -, h⟩ := completePhase_cases s <;> simp [h]

/-- What a tick of the IDLE phase does: it goes on, or a poll ends it on an idle line, or a poll ends it by the total
timeout (R102). -/
theorem tick_in_idle_phase (P : Config.Params) (L : Level) {op : Op} {k : Nat} {s : State} (hop : HasIdlePhase op)
    (h : InIdlePhase op k s) :
    (InIdlePhase op (k + 1) (tick P L s) ∧ (tick P L s).idleTimeout = s.idleTimeout ∧
      (k % P.idlePollUs ≠ 0 ∨ ((tick P L s).idleCnt.toNat < P.lineReadyUs ∧ k + 1 < P.idleTotalUs))) ∨
    (IdlePhaseEnded op (tick P L s) ∧ (tick P L s).idleTimeout = s.idleTimeout ∧
      k % P.idlePollUs = 0 ∧ P.lineReadyUs ≤ (tick P L s).idleCnt.toNat) ∨
    (IdlePhaseEnded op (tick P L s) ∧ (tick P L s).idleTimeout = true ∧
      k % P.idlePollUs = 0 ∧ (tick P L s).idleCnt.toNat < P.lineReadyUs ∧ P.idleTotalUs ≤ k + 1) := by
  obtain ⟨busy, curOp, phases, idle, rfl⟩ := h
  have completes {t : State} (hb : t.busy = true) (hp : t.phases = phaseList op) :
      IdlePhaseEnded op { completePhase t with drive := .released } := by
    obtain ⟨b, d, p⟩ := completePhase_ends_idle hop hb hp
    exact ⟨b, d, p⟩
  rw [tick_idleCnt, tick_of_idle_phase P L busy idle]
  have steps := idleStep_cases P (monitorLine L s)
  rw [monitorLine_k] at steps
  obtain ⟨step, goesOn⟩ | ⟨poll, ready, step⟩ | ⟨poll, notReady, total, step⟩ := steps <;> rw [step]
  · exact .inl ⟨⟨by simp [busy], by simp [curOp], by simp [phases], by simp [idle], rfl⟩, by simp, goesOn⟩
  · exact .inr (.inl ⟨completes (by simp [busy]) (by simp [phases]), by simp, poll, ready⟩)
  · exact .inr (.inr ⟨completes (by simp [busy]) (by simp [phases]), by simp, poll, notReady, total⟩)

/-- Over any number of ticks, the IDLE phase goes on at all of them or ends at one of them (R102). -/
theorem idle_phase_lasts_or_ends (P : Config.Params) (L : Nat → Level) {op : Op} {s : State} (hop : HasIdlePhase op)
    (h : InIdlePhase op 0 s) (N : Nat) :
    (∀ m, m ≤ N → InIdlePhase op m (afterTicks P L m s)) ∨
    ∃ n, 1 ≤ n ∧ n ≤ N ∧ (∀ m, m < n → InIdlePhase op m (afterTicks P L m s)) ∧
      IdlePhaseEnded op (afterTicks P L n s) := by
  induction N with
  | zero =>
    refine .inl fun m hm => ?_
    rw [Nat.le_zero.mp hm]
    exact h
  | succ N ih =>
    obtain lasts | ⟨n, pos, le, before, ended⟩ := ih
    · have upto : ∀ m, m < N + 1 → InIdlePhase op m (afterTicks P L m s) := fun m hm => lasts m (by omega)
      obtain ⟨next, -⟩ | ⟨ended, -⟩ | ⟨ended, -⟩ := tick_in_idle_phase P (L (N + 1)) hop (lasts N le_rfl)
      · refine .inl fun m hm => ?_
        obtain rfl | hlt := Nat.eq_or_lt_of_le hm
        · exact next
        · exact upto m hlt
      · exact .inr ⟨N + 1, by omega, le_rfl, upto, ended⟩
      · exact .inr ⟨N + 1, by omega, le_rfl, upto, ended⟩
    · exact .inr ⟨n, pos, by omega, before, ended⟩

/-- `a` rounded up to a multiple of `b` is no less than `a` (R8). -/
theorem le_mul_ceilDiv (a : Nat) {b : Nat} (hb : 0 < b) : a ≤ b * ceilDiv a b := by
  have split := Nat.div_add_mod (a + b - 1) b
  have rest := Nat.mod_lt (a + b - 1) hb
  rw [ceilDiv]
  omega

/-- `a` rounded up to a multiple of `b` exceeds `a` by less than `b` (R8). -/
theorem mul_ceilDiv_le (a b : Nat) : b * ceilDiv a b ≤ a + b - 1 := Nat.mul_div_le _ _

/-- The first poll at which the total timeout has passed comes less than one poll interval after it (R103, R105). -/
theorem exists_total_timeout_poll (P : Config.Params) : ∃ K, K % P.idlePollUs = 0 ∧ P.idleTotalUs ≤ K + 1 ∧
    K + 1 ≤ P.idleTotalUs + P.idlePollUs - 1 := by
  have total := P.idleTotal_pos
  have poll := P.idlePoll_pos
  have atLeast := le_mul_ceilDiv (P.idleTotalUs - 1) poll
  have atMost := mul_ceilDiv_le (P.idleTotalUs - 1) P.idlePollUs
  exact ⟨P.idlePollUs * ceilDiv (P.idleTotalUs - 1) P.idlePollUs, Nat.mul_mod_right _ _, by omega, by omega⟩

/-- The IDLE phase ends within IDLE_TOTAL_US + IDLE_POLL_US − 1 ticks: at the latest at the poll of
`exists_total_timeout_poll` (R105). -/
theorem idle_phase_ends (P : Config.Params) (L : Nat → Level) {op : Op} {s : State} (hop : HasIdlePhase op)
    (h : InIdlePhase op 0 s) :
    ∃ n, 1 ≤ n ∧ n ≤ P.idleTotalUs + P.idlePollUs - 1 ∧
      (∀ m, m < n → InIdlePhase op m (afterTicks P L m s)) ∧ IdlePhaseEnded op (afterTicks P L n s) := by
  obtain ⟨K, poll, total, bound⟩ := exists_total_timeout_poll P
  obtain lasts | ⟨n, pos, le, before, ended⟩ := idle_phase_lasts_or_ends P L hop h K
  · have upto : ∀ m, m < K + 1 → InIdlePhase op m (afterTicks P L m s) := fun m hm => lasts m (by omega)
    obtain ⟨-, -, noPoll | ⟨-, early⟩⟩ | ⟨ended, -⟩ | ⟨ended, -⟩ :=
      tick_in_idle_phase P (L (K + 1)) hop (lasts K le_rfl)
    · exact absurd poll noPoll
    · omega
    · exact ⟨K + 1, by omega, bound, upto, ended⟩
    · exact ⟨K + 1, by omega, bound, upto, ended⟩
  · exact ⟨n, pos, by omega, before, ended⟩

/-- Settles O37: the phase lasts or ends up to the last poll, and that poll ends it. -/
theorem idlePhaseAlwaysEnds : Obligations.IdlePhaseAlwaysEnds := by
  intro P L s busy hop phases idle start
  obtain ⟨n, pos, bound, before, ended⟩ := idle_phase_ends P L hop ⟨busy, rfl, phases, idle, start⟩
  exact ⟨n, pos, bound, fun m hm => ⟨(before m hm).phase, (before m hm).busy⟩, ended.phase, ended.busy⟩

/-- WAIT_IDLE, when no command runs, is accepted and starts its IDLE phase (R82, R85, R103). -/
theorem exec_waitIdle {s : State} (arg : BitVec 8) (len : BitVec 6) (idle : s.busy = false) :
    exec (.waitIdle arg len) s = .next (startPhase .idle (latchCommand .waitIdle arg len s)) := by
  have accepted : submit .waitIdle arg len s = startPhase .idle (latchCommand .waitIdle arg len s) := by
    rw [submit_of_legal_len arg idle rfl, accept_of_ne_receive arg len s (by decide)]
    rfl
  exact congrArg Host.Outcome.next accepted

theorem inIdlePhase_of_waitIdle (arg : BitVec 8) (len : BitVec 6) (s : State) :
    InIdlePhase .waitIdle 0 (startPhase .idle (latchCommand .waitIdle arg len s)) :=
  ⟨rfl, rfl, rfl, rfl, rfl⟩

/-- On a line that has been released long enough, a released first sample ends the IDLE phase, without IDLE_TIMEOUT
(R104): tick 1 is a poll, and its own sample is counted. -/
theorem first_tick_ends_idle_of_ready {P : Config.Params} {op : Op} {s : State} (hop : HasIdlePhase op)
    (h : InIdlePhase op 0 s) (ready : s.idleCnt.toNat ≥ P.lineReadyUs - 1) :
    IdlePhaseEnded op (tick P .released s) ∧ (tick P .released s).idleTimeout = s.idleTimeout := by
  have counted := tick_released_idleCnt_toNat P s
  have cap := P.lineReady_lt
  obtain ⟨-, -, noPoll | ⟨notReady, -⟩⟩ | ⟨ended, flag, -⟩ | ⟨-, -, -, notReady, -⟩ :=
    tick_in_idle_phase P .released hop h
  · exact absurd (Nat.zero_mod _) noPoll
  · omega
  · exact ⟨ended, flag⟩
  · omega

/-- Settles O38: both commands by `first_tick_ends_idle_of_ready`, WAIT_IDLE from its acceptance. -/
theorem waitIdleOnAnIdleLineTakesOneTick : Obligations.WaitIdleOnAnIdleLineTakesOneTick := by
  intro P L s ready sample
  refine ⟨fun idle arg len => ⟨_, exec_waitIdle arg len idle, ?_⟩, fun busy curOp phases idle start => ?_⟩
  · have accepted := inIdlePhase_of_waitIdle arg len s
    obtain ⟨ended, flag⟩ := first_tick_ends_idle_of_ready (.inl rfl) accepted ready
    rw [FinishesAt, afterTicks, afterTicks, sample]
    refine ⟨⟨fun m hm => ?_, ?_, ended.done (by decide)⟩, flag⟩
    · rw [Nat.lt_one_iff.mp hm]
      exact accepted.busy
    · exact Bool.eq_false_iff.mpr fun running => absurd (ended.busy.mp running) (by decide)
  · rw [sample]
    obtain ⟨ended, flag⟩ := first_tick_ends_idle_of_ready (.inr rfl) ⟨busy, curOp, phases, idle, start⟩ ready
    exact ⟨ended.phase, flag⟩

end Sys2Proof.Machine
end

section
/-! The durations of the waveforms (42_bit_encoder.md R120, R125): the length of a flattened waveform, mark by mark. -/

namespace Sys2Proof.Machine

theorem flatten_append (as bs : List Segment) : flatten (as ++ bs) = flatten as ++ flatten bs :=
  List.flatMap_append

/-- A mark and its delimiter, the shape of the sync and of every bit, flatten to the wave of the mark (R9, R120). -/
theorem flatten_mark (n : Nat) : flatten [⟨.asserted, n⟩, ⟨.released, delimUs⟩] = markWave n := by
  rw [flatten, List.flatMap_cons, List.flatMap_singleton, markWave, delimUs]

theorem flatten_syncSegs : flatten syncSegs = markWave 2400 := flatten_mark syncMarkUs

theorem flatten_bitSegs (b : Bool) : flatten (bitSegs b) = markWave (if b then 1200 else 600) :=
  flatten_mark (if b then oneMarkUs else zeroMarkUs)

theorem length_markWave (n : Nat) : (markWave n).length = n + 600 := by
  rw [markWave, List.length_append, List.length_replicate, List.length_replicate]

theorem length_flatten_syncSegs : (flatten syncSegs).length = 3000 := by
  rw [flatten_syncSegs, length_markWave]

theorem length_flatten_bitSegs (b : Bool) : (flatten (bitSegs b)).length = 1200 + 600 * b.toNat := by
  rw [flatten_bitSegs, length_markWave]
  cases b <;> rfl

theorem popcount_eq_sum_bits (x : Byte) : popcount x =
    (x.getLsbD 7).toNat + (x.getLsbD 6).toNat + (x.getLsbD 5).toNat + (x.getLsbD 4).toNat +
      (x.getLsbD 3).toNat + (x.getLsbD 2).toNat + (x.getLsbD 1).toNat + (x.getLsbD 0).toNat := by
  have indices : List.range 8 = [0, 1, 2, 3, 4, 5, 6, 7] := rfl
  simp only [popcount, indices, List.countP_cons, List.countP_nil, Nat.zero_add, Bool.toNat,
    Bool.cond_eq_ite]

theorem popcount_le (x : Byte) : popcount x ≤ 8 := List.countP_le_length

/-- Each of the eight bits takes 1200 ticks, and a 1 takes 600 more (R125). -/
theorem length_flatten_byteSegs (x : Byte) : (flatten (byteSegs x)).length = 9600 + 600 * popcount x := by
  simp only [byteSegs, flatten_append, List.length_append, length_flatten_bitSegs, popcount_eq_sum_bits]
  omega

theorem length_flatten_flatMap_byteSegs (bytes : List Byte) :
    (flatten (bytes.flatMap byteSegs)).length = 9600 * bytes.length + 600 * (bytes.map popcount).sum := by
  induction bytes with
  | nil => rfl
  | cons x xs ih =>
    rw [List.flatMap_cons, flatten_append, List.length_append, length_flatten_byteSegs, ih, List.map_cons,
      List.sum_cons, List.length_cons]
    omega

/-- A frame's waveform lasts T_tx (R125). -/
theorem length_flatten_frameSegs (bytes : List Byte) : (flatten (frameSegs bytes)).length = frameTicks bytes := by
  rw [frameSegs, flatten_append, List.length_append, length_flatten_syncSegs, length_flatten_flatMap_byteSegs,
    frameTicks, Nat.add_assoc]

/-- A byte lasts 14400 ticks at most, the length of 0xFF (R125). -/
theorem frameTicks_le (bytes : List Byte) : frameTicks bytes ≤ 3000 + 14400 * bytes.length := by
  have bits : (bytes.map popcount).sum ≤ (bytes.map popcount).length • 8 :=
    List.sum_le_card_nsmul _ _ (List.forall_mem_map.mpr fun x _ => popcount_le x)
  rw [List.length_map, smul_eq_mul] at bits
  unfold frameTicks
  omega

theorem length_frameBytes_le (len : BitVec 6) (txbuf : Vector Byte 32) : (frameBytes len txbuf).length ≤ 32 := by
  simp [frameBytes]

theorem frameTicks_replicate (n : Nat) (x : Byte) :
    frameTicks (List.replicate n x) = 3000 + n * (9600 + 600 * popcount x) := by
  simp only [frameTicks, List.length_replicate, List.map_replicate, List.sum_replicate, smul_eq_mul]
  ring

/-- Settles O42: the marks and bits by their lengths, a byte by its popcount, a frame by T_tx and its bound. -/
theorem waveformDurations : Obligations.WaveformDurations := by
  have popcount_zero : popcount 0x00#8 = 0 := by decide
  have popcount_ones : popcount 0xFF#8 = 8 := by decide
  refine ⟨length_flatten_syncSegs, flatten_syncSegs, length_flatten_bitSegs true, length_flatten_bitSegs false,
    fun x => ?byte, ?zero, ?ones, length_flatten_frameSegs, ?longest, fun len txbuf => ?bound⟩
  case byte =>
    have bits := popcount_le x
    rw [length_flatten_byteSegs]
    omega
  case zero => rw [length_flatten_byteSegs, popcount_zero]
  case ones => rw [length_flatten_byteSegs, popcount_ones]
  case longest => rw [length_flatten_frameSegs, frameTicks_replicate, popcount_ones]
  case bound =>
    calc (flatten (frameSegs (frameBytes len txbuf))).length
        = frameTicks (frameBytes len txbuf) := length_flatten_frameSegs _
      _ ≤ 3000 + 14400 * (frameBytes len txbuf).length := frameTicks_le _
      _ ≤ 463800 := by have := length_frameBytes_le len txbuf; omega

end Sys2Proof.Machine
end

section
/-! SEND's last TX tick (43_command_transmitter.md R142), the first padding checkpoint. -/

namespace Sys2Proof.Machine

/-- A tick of the TX phase is the monitor, the TX step and the level of the waveform (R16, R121). -/
theorem tick_of_tx_phase (P : Config.Params) (L : Level) {s : State} (busy : s.busy = true) (tx : s.phase = .tx) :
    tick P L s = { txStep P L (monitorLine L s) with drive := txLevel s } := by
  rw [tick_of_busy P L s busy]
  simp [phaseStep, tx]

/-- SEND's TX step at the last position of its waveform counts the position and the elapsed tick, then makes the first
padding checkpoint (R121, R142). -/
theorem txStep_of_last_send {P : Config.Params} {L : Level} {s : State} (send : s.curOp = .send)
    (last : s.txPos + 1 = waveLength s.txWave) :
    txStep P L s = sendTxEnd P L { s with txPos := s.txPos + 1, e := s.e + 1 } := by
  obtain ⟨notLast, -⟩ | ⟨-, -, step⟩ | ⟨-, notSend, -⟩ := txStep_cases P L s
  · exact absurd last notLast
  · exact step
  · exact absurd send notSend

/-- SEND's last TX tick is the monitor, the first padding checkpoint and the waveform's last level (R16, R142). -/
theorem tick_of_last_send_tx (P : Config.Params) (L : Level) {s : State} (busy : s.busy = true)
    (send : s.curOp = .send) (tx : s.phase = .tx) (last : s.txPos + 1 = waveLength s.txWave) :
    tick P L s = { sendTxEnd P L { monitorLine L s with txPos := s.txPos + 1, e := s.e + 1 } with
      drive := txLevel s } := by
  rw [tick_of_tx_phase P L busy tx, txStep_of_last_send (by simpa using send) (by simpa using last),
    monitorLine_txPos, monitorLine_e]

/-- After SEND's TX phase comes its PAD phase (R83, R86). -/
theorem completePhase_of_send_tx {s : State} (phases : s.phases = [.tx, .pad]) :
    completePhase s = startPhase .pad { s with phases := [.pad] } := by
  simp [completePhase, nextPhase, phases]

/-- Settles O47, along the three outcomes of the first padding checkpoint, made with the elapsed tick counted in. -/
theorem sendsLastTxTickIsTheFirstCheckpoint : Obligations.SendsLastTxTickIsTheFirstCheckpoint := by
  intro P L s busy send tx phases last
  rw [tick_of_last_send_tx P L busy send tx last]
  obtain ⟨gap, step⟩ | ⟨noGap, rfl, step⟩ | ⟨noGap, rfl, step⟩ :=
    sendTxEnd_cases P L { monitorLine L s with txPos := s.txPos + 1, e := s.e + 1 } <;> rw [step]
  · exact ⟨rfl, fun _ => ⟨rfl, rfl, rfl, monitorLine_padEarly L s⟩,
      fun early => absurd gap early.not_ge, fun early => absurd gap early.not_ge⟩
  · exact ⟨rfl, fun gap => absurd gap noGap.not_ge, fun _ _ => ⟨rfl, rfl, rfl, rfl⟩, fun _ => nofun⟩
  · rw [completePhase_of_send_tx (by simp [phases])]
    exact ⟨rfl, fun gap => absurd gap noGap.not_ge, fun _ => nofun, fun _ _ => ⟨busy, rfl, rfl, rfl, rfl⟩⟩

end Sys2Proof.Machine
end

section
/-! RECEIVE on a constant line (44_frame_receiver.md R172): the receiver never sees a whole pulse, so each tick only
counts, and tick 60000 is the overall timeout. -/

namespace Sys2Proof.Machine

/-- RECEIVE with a legal LEN, when no command runs, is accepted and starts its RX phase (R82, R85, R160). -/
theorem exec_receive {s : State} (arg : BitVec 8) {len : BitVec 6} (idle : s.busy = false) (legal : len.toNat ≤ 16) :
    exec (.receive arg len) s = .next (startPhase .rx (clearReceiver len (latchCommand .receive arg len s))) := by
  have accepted : submit .receive arg len s = startPhase .rx (clearReceiver len (latchCommand .receive arg len s)) := by
    rw [submit_of_legal_len arg idle ((legalLen_receive len).mpr legal), accept_receive]
    rfl
  exact congrArg Host.Outcome.next accepted

/-- A tick of the RX phase is the monitor and then an RX step, with R driven (R16, R168). -/
theorem tick_of_rx_phase (P : Config.Params) (L : Level) {s : State} (busy : s.busy = true) (rx : s.phase = .rx) :
    tick P L s = { rxStep L (monitorLine L s) with drive := .released } := by
  rw [tick_of_busy P L s busy]
  simp [phaseStep, rx]

/-- Ticks change none of the fields of `TickFrame`. -/
theorem afterTicks_frame (P : Config.Params) (L : Nat → Level) (n : Nat) (s : State) :
    TickFrame s (afterTicks P L n s) := by
  induction n with
  | zero => rfl
  | succ n ih => exact ih.trans (tick_frame P (L (n + 1)) _)

@[simp] theorem afterTicks_errBusy (P : Config.Params) (L : Nat → Level) (n : Nat) (s : State) :
    (afterTicks P L n s).errBusy = s.errBusy := congrArg (·.1) (afterTicks_frame P L n s)

@[simp] theorem afterTicks_errOp (P : Config.Params) (L : Nat → Level) (n : Nat) (s : State) :
    (afterTicks P L n s).errOp = s.errOp := congrArg (·.2.1) (afterTicks_frame P L n s)

@[simp] theorem afterTicks_errLen (P : Config.Params) (L : Nat → Level) (n : Nat) (s : State) :
    (afterTicks P L n s).errLen = s.errLen := congrArg (·.2.2.1) (afterTicks_frame P L n s)

/-- RX_SUB from which no sample `l` begins, widens or completes a pulse: WAIT_LOW skips asserted samples, and a
released one matters only in IN_PULSE (R162). -/
def NoPulseOn (l : Level) (sub : RxSub) : Prop :=
  (l = .asserted ∧ sub = .waitLow) ∨ (l = .released ∧ sub ≠ .inPulse)

/-- RX_SUB after a tick on `l` that has no pulse to measure (R162). -/
def restingSub : Level → RxSub
  | .asserted => .waitLow
  | .released => .waitEdge

theorem noPulseOn_waitLow (l : Level) : NoPulseOn l .waitLow := by
  cases l
  · exact .inl ⟨rfl, rfl⟩
  · exact .inr ⟨rfl, by decide⟩

theorem noPulseOn_restingSub (l : Level) : NoPulseOn l (restingSub l) := by
  cases l
  · exact .inl ⟨rfl, rfl⟩
  · exact .inr ⟨rfl, by decide⟩

theorem pulseWidth_of_noPulseOn {l : Level} {s : State} (quiet : NoPulseOn l s.rxSub) : pulseWidth l s = none := by
  obtain ⟨rfl, low⟩ | ⟨rfl, notIn⟩ := quiet
  · simp [pulseWidth, low]
  · cases sub : s.rxSub
    case inPulse => exact absurd sub notIn
    all_goals simp [pulseWidth, sub]

/-- Without a pulse to measure, `measure(l)` only sets RX_SUB (R162). -/
theorem measurePulse_of_noPulseOn {l : Level} {s : State} (quiet : NoPulseOn l s.rxSub) :
    measurePulse l s = { s with rxSub := restingSub l } := by
  obtain ⟨rfl, low⟩ | ⟨rfl, notIn⟩ := quiet
  · cases s
    cases low
    rfl
  · cases sub : s.rxSub
    case inPulse => exact absurd sub notIn
    case waitLow => simp [measurePulse, sub, restingSub]
    case waitEdge =>
      cases s
      cases sub
      rfl

/-- A window that times out leads to the same RX_SUB (R163). -/
theorem windowTimeout_eq_resting (l : Level) (s : State) :
    windowTimeout l s = { s with rxSub := restingSub l, rxW := 0 } := by
  cases l <;> rfl

/-- An RX step without a pulse to measure counts the tick and sets RX_SUB; RX_W counts too, or the window times out
(R163, R168). -/
theorem rxMeasure_of_noPulseOn {l : Level} {s : State} (quiet : NoPulseOn l s.rxSub) :
    ∃ w, rxMeasure l s = { s with rxE := s.rxE + 1, rxSub := restingSub l, rxW := w } := by
  have counted : NoPulseOn l (rxCounted s).rxSub := quiet
  rw [rxMeasure_of_no_pulse (pulseWidth_of_noPulseOn quiet), measurePulse_of_noPulseOn counted,
    windowTimeout_eq_resting]
  split
  · exact ⟨0, rfl⟩
  · exact ⟨s.rxW + 1, rfl⟩

/-- No pulse has been delivered since RECEIVE `len` with `len` ≥ 1 was accepted (R82, R169). -/
structure NothingReceived (s : State) : Prop where
  rxState : s.rxState = .waitSync
  rxCount : s.rxCount = 0#5
  rxbuf : s.rxbuf = Vector.replicate 16 0x00#8
  lastWidth : s.lastWidth = 0#16
  lastClass : s.lastClass = .none

/-- RXPULSE reads 0 until a pulse is delivered (R26, R90). -/
theorem NothingReceived.regRead_rxpulse {s : State} (h : NothingReceived s) (P : Config.Params) :
    regRead P .rxpulse s = 0x00000000#32 := by
  show rxpulseWord s = _
  rw [rxpulseWord, h.lastWidth, h.lastClass]
  rfl

/-- RECEIVE has run for `n` ticks on a line that stays at `l`. -/
structure InSilence (l : Level) (n : Nat) (s : State) : Prop where
  busy : s.busy = true
  phase : s.phase = .rx
  elapsed : s.rxE = n
  quiet : NoPulseOn l s.rxSub
  nothing : NothingReceived s

/-- RECEIVE begins in WAIT_LOW, where neither level gives it a pulse to measure (R82, R160). -/
theorem inSilence_of_receive (l : Level) (arg : BitVec 8) {len : BitVec 6} (s : State) (pos : 1 ≤ len.toNat) :
    InSilence l 0 (startPhase .rx (clearReceiver len (latchCommand .receive arg len s))) := by
  have nonzero : len ≠ 0#6 := by
    rintro rfl
    exact absurd pos (by decide)
  exact ⟨rfl, rfl, rfl, noPulseOn_waitLow l, by simp [nonzero], rfl, rfl, rfl, rfl⟩

/-- RECEIVE has ended by the overall timeout of tick 60000 with nothing received (R167, R172). -/
structure SilenceEnded (s : State) : Prop where
  busy : s.busy = false
  done : s.done = true
  rxTimeout : s.rxTimeout = true
  elapsed : s.rxE = 60000
  nothing : NothingReceived s

/-- What a tick of silence does: it goes on, or it is tick 60000 and ends by the overall timeout (R167). -/
theorem tick_in_silence (P : Config.Params) {l : Level} {n : Nat} {s : State} (h : InSilence l n s)
    (before : n < 60000) :
    (n + 1 < 60000 ∧ InSilence l (n + 1) (tick P l s)) ∨ (n + 1 = 60000 ∧ SilenceEnded (tick P l s)) := by
  obtain ⟨busy, rx, rfl, quiet, rxState, rxCount, rxbuf, lastWidth, lastClass⟩ := h
  obtain ⟨w, measured⟩ := rxMeasure_of_noPulseOn (s := monitorLine l s) (by simpa using quiet)
  have waiting : (rxMeasure l (monitorLine l s)).rxState = .waitSync := by simp [measured, rxState]
  have counted : (rxMeasure l (monitorLine l s)).rxE = s.rxE + 1 := by simp [measured]
  have nothing : NothingReceived (rxMeasure l (monitorLine l s)) :=
    ⟨waiting, by simp [measured, rxCount], by simp [measured, rxbuf], by simp [measured, lastWidth],
      by simp [measured, lastClass]⟩
  rw [tick_of_rx_phase P l busy rx, rxStep]
  obtain ⟨done, -⟩ | ⟨-, late, ended⟩ | ⟨-, early, goesOn⟩ := rxEnd_cases (rxMeasure l (monitorLine l s))
  · rw [waiting] at done
    cases done
  · have last : s.rxE + 1 = 60000 := by omega
    rw [ended]
    exact .inr ⟨last, rfl, rfl, rfl, counted.trans last, { nothing with }⟩
  · rw [goesOn]
    exact .inl ⟨by omega, by simp [measured, busy], by simp [measured, rx], counted,
      by simpa [measured] using noPulseOn_restingSub l, { nothing with }⟩

/-- Silence lasts through every tick before tick 60000. -/
theorem inSilence_afterTicks (P : Config.Params) {L : Nat → Level} {l : Level} (const : ∀ n, L n = l) {s : State}
    (h : InSilence l 0 s) {n : Nat} (before : n < 60000) : InSilence l n (afterTicks P L n s) := by
  induction n with
  | zero => exact h
  | succ n ih =>
    rw [afterTicks, const]
    obtain ⟨-, next⟩ | ⟨last, -⟩ := tick_in_silence P (ih (by omega)) (by omega)
    · exact next
    · omega

/-- Tick 60000 of silence ends it. -/
theorem silenceEnded_afterTicks (P : Config.Params) {L : Nat → Level} {l : Level} (const : ∀ n, L n = l) {s : State}
    (h : InSilence l 0 s) : SilenceEnded (afterTicks P L 60000 s) := by
  rw [afterTicks, const]
  obtain ⟨early, -⟩ | ⟨-, ended⟩ :=
    tick_in_silence P (inSilence_afterTicks P const h (n := 59999) (by omega)) (by omega)
  · omega
  · exact ended

/-- Settles O54: silence lasts up to tick 60000, which ends it, and no tick touches an error flag. -/
theorem silenceTimesOutAfterSixtyThousandTicks : Obligations.SilenceTimesOutAfterSixtyThousandTicks := by
  intro P L l arg len s idle pos legal const
  have accepted := inSilence_of_receive l arg s pos
  have ended := silenceEnded_afterTicks P const accepted
  refine ⟨_, exec_receive arg idle legal,
    ⟨fun m hm => (inSilence_afterTicks P const accepted hm).busy, ended.busy, ended.done⟩,
    ended.elapsed, ended.rxTimeout, ended.nothing.rxCount, ended.nothing.rxState, fun i => ?_,
    ended.nothing.regRead_rxpulse P, by simp, by simp, by simp⟩
  simp [ended.nothing.rxbuf]

end Sys2Proof.Machine
end

section
/-! The tolerance windows and the classifier (44_frame_receiver.md R161). -/

namespace Sys2Proof.Machine

/-- `lo(m)` is 5m/6 rounded up (R161). -/
theorem windowLo_bounds (m : Nat) : 5 * m ≤ 6 * windowLo m ∧ 6 * windowLo m < 5 * m + 6 := by
  unfold windowLo
  omega

/-- `hi(m)` is 6m/5 rounded down (R161). -/
theorem windowHi_bounds (m : Nat) : 5 * windowHi m ≤ 6 * m ∧ 6 * m < 5 * windowHi m + 5 := by
  unfold windowHi
  omega

/-- A width lies in one of the three windows, which are disjoint, or is NOISE (R161). -/
theorem classify_cases (w : Nat) :
    ((2000 ≤ w ∧ w ≤ 2880) ∧ classify w = .sync) ∨
    ((1000 ≤ w ∧ w ≤ 1440) ∧ classify w = .one) ∨
    ((500 ≤ w ∧ w ≤ 720) ∧ classify w = .zero) ∨
    ((w < 500 ∨ (720 < w ∧ w < 1000) ∨ (1440 < w ∧ w < 2000) ∨ 2880 < w) ∧ classify w = .noise) := by
  simp only [classify, inWindow_sync, inWindow_one, inWindow_zero]
  split_ifs with sync one zero
  · exact .inl ⟨sync, rfl⟩
  · exact .inr (.inl ⟨one, rfl⟩)
  · exact .inr (.inr (.inl ⟨zero, rfl⟩))
  · exact .inr (.inr (.inr ⟨by omega, rfl⟩))

/-- Settles O51: the bounds of the windows, and each class by the window that the width lies in. -/
theorem classifierUsesTheToleranceWindows : Obligations.ClassifierUsesTheToleranceWindows := by
  refine ⟨fun m => ?_, fun w => ?_⟩
  · obtain ⟨loGe, loLt⟩ := windowLo_bounds m
    obtain ⟨hiLe, hiGt⟩ := windowHi_bounds m
    exact ⟨loGe, loLt, hiLe, hiGt⟩
  · obtain ⟨width, h⟩ | ⟨width, h⟩ | ⟨width, h⟩ | ⟨width, h⟩ := classify_cases w <;>
      simp only [h, reduceCtorEq, true_iff, false_iff] <;> omega

end Sys2Proof.Machine
end

section
/-! Refused CMD and TXBUF writes (60_exceptions.md R200–R203), and the effect of a command by its well-formedness
(30_encoding.md R67, 40_command_interface.md R80). -/

namespace Sys2Proof

/-- A command is well formed when its LEN is in its opcode's range (R67). -/
theorem Instr.wf_iff (i : Instr) : i.wf = true ↔
    (i.op = .txFrame → 1 ≤ i.len.toNat ∧ i.len.toNat ≤ 32) ∧ (i.op = .send → 2 ≤ i.len.toNat ∧ i.len.toNat ≤ 4) ∧
      (i.op = .receive → i.len.toNat ≤ 16) := by
  cases i with
  | txFrame _ len => simpa [Instr.wf, Instr.op, Instr.len] using Machine.legalLen_txFrame len
  | send _ len => simpa [Instr.wf, Instr.op, Instr.len] using Machine.legalLen_send len
  | receive _ len => simpa [Instr.wf, Instr.op, Instr.len] using Machine.legalLen_receive len
  | _ => simp [Instr.wf, Instr.op, legalLen]

/-- NOP is well formed with any LEN (R67, R84). -/
theorem Instr.op_ne_nop_of_not_wf {i : Instr} (ill : i.wf = false) : i.op ≠ .nop := by
  intro nop
  simp [Instr.wf, nop, legalLen] at ill

end Sys2Proof

namespace Sys2Proof.Machine

/-- The effect of a command other than NOP is that of R80's checks. -/
theorem exec_of_ne_nop {i : Instr} (s : State) (hop : i.op ≠ .nop) :
    exec i s = .next (submit i.op i.arg i.len s) := by
  cases i
  case nop => exact absurd rfl hop
  all_goals rfl

/-- An ill-formed command, when no command runs, is dropped with ERR_LEN (R203). -/
theorem exec_of_not_wf {i : Instr} {s : State} (idle : s.busy = false) (ill : i.wf = false) :
    exec i s = .next { s with errLen := true } := by
  rw [exec_of_ne_nop s (Instr.op_ne_nop_of_not_wf ill), submit_of_illegal_len i.arg idle ill]

/-- A well-formed command other than NOP, when no command runs, is accepted (R80). -/
theorem exec_of_wf {i : Instr} {s : State} (idle : s.busy = false) (wf : i.wf = true) (hop : i.op ≠ .nop) :
    exec i s = .next (accept i.op i.arg i.len s) := by
  rw [exec_of_ne_nop s hop, submit_of_legal_len i.arg idle wf]

/-- Settles O23: a CMD write by its OP, a TXBUF write by the lock. -/
theorem writesWhileBusySetErrBusyOnly : Obligations.WritesWhileBusySetErrBusyOnly := by
  refine ⟨fun v s hop busy => regWrite_cmd_of_busy hop busy, fun i v s busy frame => ?_⟩
  have locked : txbufLocked s = true := txbufLocked_iff.mpr ⟨busy, frame⟩
  obtain ⟨-, dropped⟩ | ⟨unlocked, -⟩ := writeTxbuf_cases i v s
  · exact congrArg Host.Outcome.next dropped
  · exact absurd locked (by simp [unlocked])

/-- Settles O24: the word does not decode, and the write comes down to the check of BUSY. -/
theorem reservedOpcodeSetsErrOpOnly : Obligations.ReservedOpcodeSetsErrOpOnly := by
  intro v s reserved idle
  refine ⟨decodeWord_of_op_ge reserved, ?_⟩
  rw [regWrite_cmd_of_reserved reserved, submitReserved_of_idle idle]

/-- Settles O25: the CMD write by R80's check of LEN, in whose range the opcode's LEN is not; the command by its
well-formedness. -/
theorem illegalLenSetsErrLenOnly : Obligations.IllegalLenSetsErrLenOnly := by
  refine ⟨?_, fun i s idle ill => exec_of_not_wf idle ill, Instr.wf_iff⟩
  intro v s idle op len illegal
  obtain ⟨-, -, -, dropped, -⟩ := cmdWriteMakesTheChecksInOrder v s
  have code : 4 ≤ op.toNat ∧ op.toNat ≤ 6 := by
    obtain ⟨h, -⟩ | ⟨h, -⟩ | ⟨h, -⟩ := illegal <;> rw [h] <;> decide
  refine dropped idle (le_trans (by decide) code.1) code.2 fun ⟨frame, send, receive⟩ => ?_
  obtain ⟨h, range⟩ | ⟨h, range⟩ | ⟨h, range⟩ := illegal
  · have legal := frame h
    omega
  · have legal := send h
    omega
  · have legal := receive h
    omega

end Sys2Proof.Machine
end

section
/-! Runs of ticks that end (60_exceptions.md R207): a phase that each of its ticks continues or ends. -/

namespace Sys2Proof.Machine

/-- A command has just finished (R87). -/
structure Finished (s : State) : Prop where
  busy : s.busy = false
  done : s.done = true

theorem finished_finish (s : State) : Finished (finish s) := ⟨rfl, rfl⟩

/-- Completing the last phase finishes the command (R86). -/
theorem completePhase_of_last {s : State} (last : s.phases.tail = []) : completePhase s = finish s := by
  obtain ⟨-, finished⟩ | ⟨p, ps, more, -⟩ := completePhase_cases s
  · exact finished
  · rw [last] at more
    cases more

/-- The ticks that follow the first `n` see the line samples that follow the first `n`. -/
theorem afterTicks_add (P : Config.Params) (L : Nat → Level) (n m : Nat) (s : State) :
    afterTicks P L (n + m) s = afterTicks P (fun i => L (n + i)) m (afterTicks P L n s) := by
  induction m with
  | zero => rfl
  | succ m ih => rw [← Nat.add_assoc, afterTicks, ih, Nat.add_assoc, afterTicks]

/-- A command that still runs after `n` ticks and finishes `m` ticks later finishes at tick `n + m`. -/
theorem FinishesAt.after {P : Config.Params} {L : Nat → Level} {s : State} {n m : Nat}
    (before : ∀ i, i < n → (afterTicks P L i s).busy = true)
    (rest : FinishesAt P (fun i => L (n + i)) (afterTicks P L n s) m) : FinishesAt P L s (n + m) := by
  obtain ⟨running, busy, done⟩ := rest
  rw [← afterTicks_add] at busy done
  refine ⟨fun i hi => ?_, busy, done⟩
  obtain early | ⟨j, rfl⟩ : i < n ∨ ∃ j, i = n + j := (Nat.lt_or_ge i n).imp_right Nat.exists_eq_add_of_le
  · exact before i early
  · rw [afterTicks_add]
    exact running j (by omega)

section
variable {P : Config.Params} {In Ended : Nat → State → Prop} {N : Nat}

/-- Each tick from `In n` with `n < N` leads to `In (n + 1)` or to `Ended (n + 1)`, and the `N`-th to the latter. -/
def EndsByTick (P : Config.Params) (In Ended : Nat → State → Prop) (N : Nat) : Prop :=
  ∀ (n : Nat) (l : Level) (s : State), n < N → In n s →
    (n + 1 < N ∧ In (n + 1) (tick P l s)) ∨ Ended (n + 1) (tick P l s)

/-- Such a phase goes on for some ticks and ends within `N` of them, whatever the line does. -/
theorem EndsByTick.exists_end (ends : EndsByTick P In Ended N) (pos : 0 < N) (L : Nat → Level) {s : State}
    (start : In 0 s) :
    ∃ n, 1 ≤ n ∧ n ≤ N ∧ (∀ m, m < n → In m (afterTicks P L m s)) ∧ Ended n (afterTicks P L n s) := by
  have lastsOrEnds (k : Nat) (hk : k < N) : (∀ m, m ≤ k → In m (afterTicks P L m s)) ∨
      ∃ n, 1 ≤ n ∧ n ≤ N ∧ (∀ m, m < n → In m (afterTicks P L m s)) ∧ Ended n (afterTicks P L n s) := by
    induction k with
    | zero =>
      refine .inl fun m hm => ?_
      rw [Nat.le_zero.mp hm]
      exact start
    | succ k ih =>
      obtain lasts | ended := ih (by omega)
      · obtain ⟨-, next⟩ | ended := ends k (L (k + 1)) _ (by omega) (lasts k le_rfl)
        · refine .inl fun m hm => ?_
          obtain rfl | hlt := Nat.eq_or_lt_of_le hm
          · exact next
          · exact lasts m (by omega)
        · exact .inr ⟨k + 1, by omega, by omega, fun m hm => lasts m (by omega), ended⟩
      · exact .inr ended
  obtain ⟨k, rfl⟩ : ∃ k, N = k + 1 := ⟨N - 1, by omega⟩
  obtain lasts | ended := lastsOrEnds k (by omega)
  · obtain ⟨late, -⟩ | ended := ends k (L (k + 1)) _ (by omega) (lasts k le_rfl)
    · omega
    · exact ⟨k + 1, by omega, le_rfl, fun m hm => lasts m (by omega), ended⟩
  · exact ended

end

end Sys2Proof.Machine
end

section
/-! The TX phase (42_bit_encoder.md R121): it lasts as long as its waveform, and only SEND goes on after it. -/

namespace Sys2Proof.Machine

/-- `op` is in its TX phase and has driven `n` of the `T` ticks of its waveform (R85, R121). -/
structure InTxPhase (op : Op) (T n : Nat) (s : State) : Prop where
  busy : s.busy = true
  curOp : s.curOp = op
  phase : s.phase = .tx
  phases : s.phases = if op = .send then [.tx, .pad] else [.tx]
  length : waveLength s.txWave = T
  position : s.txPos = n
  elapsed : s.e = n

/-- SEND is in its PAD phase, `n` ticks after its `T` TX ticks (R141, R143). -/
structure InPadPhase (T n : Nat) (s : State) : Prop where
  busy : s.busy = true
  phase : s.phase = .pad
  phases : s.phases = [.pad]
  ticks : s.k = n
  elapsed : s.e = T + n

/-- `op` has driven its whole waveform: it has finished, or it is SEND, before the word gap, and pads (R121, R142). -/
def TxPhaseEnded (P : Config.Params) (op : Op) (T : Nat) (s : State) : Prop :=
  Finished s ∨ (op = .send ∧ T < P.wordGapUs ∧ InPadPhase T 0 s)

/-- SEND's first padding checkpoint ends its TX phase (R142). -/
theorem sendTxEnd_ends_tx (P : Config.Params) (L : Level) {T : Nat} {s : State} (busy : s.busy = true)
    (phases : s.phases = [.tx, .pad]) (elapsed : s.e = T) : TxPhaseEnded P .send T (sendTxEnd P L s) := by
  subst elapsed
  obtain ⟨-, step⟩ | ⟨-, -, step⟩ | ⟨early, -, step⟩ := sendTxEnd_cases P L s <;> rw [step]
  · exact .inl (finished_finish _)
  · exact .inl (finished_finish _)
  · rw [completePhase_of_send_tx phases]
    exact .inr ⟨rfl, early, busy, rfl, rfl, rfl, rfl⟩

/-- DRIVE does not tell whether a TX phase has ended. -/
theorem TxPhaseEnded.drive {P : Config.Params} {op : Op} {T : Nat} {s : State} (h : TxPhaseEnded P op T s)
    (d : Level) : TxPhaseEnded P op T { s with drive := d } := by
  obtain ⟨busy, done⟩ | ⟨send, early, busy, phase, phases, ticks, elapsed⟩ := h
  · exact .inl ⟨busy, done⟩
  · exact .inr ⟨send, early, busy, phase, phases, ticks, elapsed⟩

/-- What a tick of the TX phase does: the phase goes on before the last tick of the waveform and ends at it (R121). -/
theorem tick_in_tx_phase (P : Config.Params) (L : Level) {op : Op} {T n : Nat} {s : State} (before : n < T)
    (h : InTxPhase op T n s) :
    (n + 1 < T ∧ InTxPhase op T (n + 1) (tick P L s)) ∨ (n + 1 = T ∧ TxPhaseEnded P op T (tick P L s)) := by
  obtain ⟨busy, curOp, tx, phases, rfl, rfl, elapsed⟩ := h
  rw [tick_of_tx_phase P L busy tx]
  obtain ⟨more, step⟩ | ⟨last, send, step⟩ | ⟨last, other, step⟩ := txStep_cases P L (monitorLine L s) <;> rw [step]
  · rw [monitorLine_txPos, monitorLine_txWave] at more
    exact .inl ⟨by omega, by simp [busy], by simp [curOp], by simp [tx], by simp [phases], by simp, by simp,
      by simp [elapsed]⟩
  · rw [monitorLine_txPos, monitorLine_txWave] at last
    obtain rfl : op = .send := by simpa [curOp] using send
    exact .inr ⟨last, (sendTxEnd_ends_tx P L (by simp [busy]) (by simp [phases]) (by simp [elapsed, last])).drive _⟩
  · rw [monitorLine_txPos, monitorLine_txWave] at last
    have notSend : op ≠ .send := by simpa [curOp] using other
    rw [completePhase_of_last (by simp [phases, notSend])]
    exact .inr ⟨last, .inl ⟨rfl, rfl⟩⟩

/-- The TX phase lasts exactly the `T` ticks of its waveform, whatever the line does (R121). -/
theorem tx_phase_lasts (P : Config.Params) (L : Nat → Level) {op : Op} {T : Nat} {s : State} (pos : 0 < T)
    (h : InTxPhase op T 0 s) :
    (∀ m, m < T → InTxPhase op T m (afterTicks P L m s)) ∧ TxPhaseEnded P op T (afterTicks P L T s) := by
  have ends : EndsByTick P (InTxPhase op T) (fun n t => n = T ∧ TxPhaseEnded P op T t) T :=
    fun n l t before ht => tick_in_tx_phase P l before ht
  obtain ⟨n, -, -, before, rfl, ended⟩ := ends.exists_end pos L h
  exact ⟨before, ended⟩

/-- The length of a waveform in segments is that of its flattened form (R120). -/
theorem waveLength_eq_length_flatten (segs : List Segment) : waveLength segs = (flatten segs).length := by
  induction segs with
  | nil => rfl
  | cons g gs ih =>
    have flat : flatten (g :: gs) = List.replicate g.ticks g.level ++ flatten gs := rfl
    rw [waveLength, ih, flat, List.length_append, List.length_replicate]

theorem waveLength_frameSegs (bytes : List Byte) : waveLength (frameSegs bytes) = frameTicks bytes := by
  rw [waveLength_eq_length_flatten, length_flatten_frameSegs]

/-- A frame lasts at least as long as its sync (R125). -/
theorem frameTicks_pos (bytes : List Byte) : 0 < frameTicks bytes := by
  unfold frameTicks
  omega

/-- The commands whose one phase is TX (R83). -/
def OnlySends (op : Op) : Prop := op = .txSync ∨ op = .txByte ∨ op = .txFrame

/-- R207's bound on a command that only sends is the length of its waveform (R125). -/
theorem waveLength_eq_commandBound (P : Config.Params) {i : Instr} (txbuf : Vector Byte 32) (hop : OnlySends i.op) :
    waveLength (waveSegs i.op i.arg i.len txbuf) = commandBound P i txbuf := by
  cases i with
  | txSync => rfl
  | txByte arg => exact (waveLength_eq_length_flatten _).trans (length_flatten_byteSegs arg)
  | txFrame => exact waveLength_frameSegs _
  | _ => simp [OnlySends, Instr.op] at hop

theorem commandBound_pos_of_onlySends (P : Config.Params) {i : Instr} (txbuf : Vector Byte 32)
    (hop : OnlySends i.op) : 0 < commandBound P i txbuf := by
  cases i with
  | txSync => exact Nat.succ_pos 2999
  | txByte arg => exact Nat.add_pos_left (by decide) _
  | txFrame => exact frameTicks_pos _
  | _ => simp [OnlySends, Instr.op] at hop

/-- A command that only sends starts its TX phase at acceptance (R82, R85). -/
theorem inTxPhase_of_accept {op : Op} (hop : OnlySends op) (arg : BitVec 8) (len : BitVec 6) (s : State) :
    InTxPhase op (waveLength (waveSegs op arg len s.txbuf)) 0 (accept op arg len s) := by
  obtain rfl | rfl | rfl := hop <;> exact ⟨rfl, rfl, rfl, rfl, rfl, rfl, rfl⟩

/-- A command that only sends finishes at the last tick of its waveform (R126, R207). -/
theorem onlySends_finishesAt (P : Config.Params) (L : Nat → Level) {i : Instr} (hop : OnlySends i.op) (s : State) :
    FinishesAt P L (accept i.op i.arg i.len s) (commandBound P i s.txbuf) := by
  have start := inTxPhase_of_accept hop i.arg i.len s
  rw [waveLength_eq_commandBound P s.txbuf hop] at start
  obtain ⟨before, ⟨busy, done⟩ | ⟨send, -⟩⟩ := tx_phase_lasts P L (commandBound_pos_of_onlySends P s.txbuf hop) start
  · exact ⟨fun m hm => (before m hm).busy, busy, done⟩
  · simp [OnlySends, send] at hop

end Sys2Proof.Machine
end

section
/-! How WAIT_IDLE, SEND and RECEIVE end (41_line_monitor.md R105, 43_command_transmitter.md R143,
44_frame_receiver.md R167), and R207's bound for every command. -/

namespace Sys2Proof.Machine

/-- The command that runs in `s` finishes at one of its next `N` ticks. -/
def FinishesWithin (P : Config.Params) (L : Nat → Level) (s : State) (N : Nat) : Prop :=
  ∃ n, 1 ≤ n ∧ n ≤ N ∧ FinishesAt P L s n

/-- A command that runs for `n` ticks, and from then on finishes within `N`, finishes within `n + N`. -/
theorem FinishesWithin.after {P : Config.Params} {L : Nat → Level} {s : State} {n N : Nat}
    (before : ∀ i, i < n → (afterTicks P L i s).busy = true)
    (rest : FinishesWithin P (fun i => L (n + i)) (afterTicks P L n s) N) : FinishesWithin P L s (n + N) := by
  obtain ⟨m, pos, bound, finishes⟩ := rest
  exact ⟨n + m, by omega, by omega, finishes.after before⟩

/-- A phase that is the command's last and ends by tick `N` finishes the command within `N`. -/
theorem EndsByTick.finishesWithin {P : Config.Params} {In : Nat → State → Prop} {N : Nat}
    (ends : EndsByTick P In (fun _ => Finished) N) (running : ∀ n s, In n s → s.busy = true) (pos : 0 < N)
    (L : Nat → Level) {s : State} (start : In 0 s) : FinishesWithin P L s N := by
  obtain ⟨n, one, bound, before, busy, done⟩ := ends.exists_end pos L start
  exact ⟨n, one, bound, fun m hm => running m _ (before m hm), busy, done⟩

/-- WAIT_IDLE finishes with its IDLE phase (R103, R105). -/
theorem waitIdle_finishesWithin (P : Config.Params) (L : Nat → Level) (arg : BitVec 8) (len : BitVec 6) (s : State) :
    FinishesWithin P L (accept .waitIdle arg len s) (P.idleTotalUs + P.idlePollUs - 1) := by
  have start : InIdlePhase .waitIdle 0 (accept .waitIdle arg len s) := inIdlePhase_of_waitIdle arg len s
  obtain ⟨n, pos, bound, before, ended⟩ := idle_phase_ends P L (.inl rfl) start
  have stopped : (afterTicks P L n (accept .waitIdle arg len s)).busy = false :=
    Bool.eq_false_iff.mpr fun running => absurd (ended.busy.mp running) (by decide)
  exact ⟨n, pos, bound, fun m hm => (before m hm).busy, stopped, ended.done (by decide)⟩

/-- At a tick of the PAD phase SEND finishes, or the phase goes on, which it does at no checkpoint after the word gap
(R143). -/
theorem tick_in_pad_phase (P : Config.Params) (L : Level) {T n : Nat} {s : State} (h : InPadPhase T n s) :
    (InPadPhase T (n + 1) (tick P L s) ∧ ((n + 1) % P.idlePollUs ≠ 0 ∨ T + n + 1 < P.wordGapUs)) ∨
    Finished (tick P L s) := by
  obtain ⟨busy, pad, phases, rfl, elapsed⟩ := h
  have ticked : tick P L s = { padStep P L (monitorLine L s) with drive := .released } := by
    rw [tick_of_busy P L s busy]
    simp [phaseStep, pad]
  rw [ticked]
  have steps := padStep_cases P L (monitorLine L s)
  simp only [monitorLine_k, monitorLine_e, elapsed] at steps
  obtain ⟨step, goesOn⟩ | ⟨-, -, step⟩ | ⟨-, -, -, step⟩ := steps
  · rw [step]
    exact .inl ⟨⟨by simp [busy], by simp [pad], by simp [phases], rfl, rfl⟩, goesOn.imp_right And.left⟩
  all_goals
    rw [step, completePhase_of_last (by simp [phases])]
    exact .inr ⟨rfl, rfl⟩

/-- The PAD phase ends at the latest at its first checkpoint after the word gap (R143, R144). -/
theorem pad_phase_endsByTick (P : Config.Params) (T : Nat) :
    EndsByTick P (InPadPhase T) (fun _ => Finished) (P.idlePollUs * ceilDiv (P.wordGapUs - T) P.idlePollUs) := by
  intro n l s before h
  obtain ⟨next, goesOn⟩ | finished := tick_in_pad_phase P l h
  · refine .inl ⟨lt_of_le_of_ne before fun last => ?_, next⟩
    have gap := le_mul_ceilDiv (P.wordGapUs - T) P.idlePoll_pos
    obtain noCheckpoint | early := goesOn
    · rw [last, Nat.mul_mod_right] at noCheckpoint
      exact noCheckpoint rfl
    · omega
  · exact .inr finished

/-- From its first TX tick on, SEND finishes with its waveform or within one poll interval of the word gap (R144). -/
theorem send_finishesWithin_of_tx (P : Config.Params) (L : Nat → Level) {T : Nat} {s : State} (pos : 0 < T)
    (h : InTxPhase .send T 0 s) : FinishesWithin P L s (max T (P.wordGapUs + P.idlePollUs - 1)) := by
  obtain ⟨before, ended⟩ := tx_phase_lasts P L pos h
  have running : ∀ m, m < T → (afterTicks P L m s).busy = true := fun m hm => (before m hm).busy
  obtain ⟨busy, done⟩ | ⟨-, early, padding⟩ := ended
  · exact ⟨T, pos, le_max_left _ _, running, busy, done⟩
  · have atLeast := le_mul_ceilDiv (P.wordGapUs - T) P.idlePoll_pos
    have atMost := mul_ceilDiv_le (P.wordGapUs - T) P.idlePollUs
    obtain ⟨n, one, bound, finishes⟩ := FinishesWithin.after running
      ((pad_phase_endsByTick P T).finishesWithin (fun _ _ h => h.busy) (by omega) _ padding)
    exact ⟨n, one, by omega, finishes⟩

/-- SEND's TX phase starts with the IDLE phase's last tick, with the frame of the latched LEN (R85, R140). -/
theorem inTxPhase_of_idle_ended {P : Config.Params} {L : Level} {k : Nat} {s : State} (h : InIdlePhase .send k s)
    (ended : IdlePhaseEnded .send (tick P L s)) :
    InTxPhase .send (frameTicks (frameBytes s.lenL s.txbuf)) 0 (tick P L s) := by
  obtain ⟨busy, curOp, phases, idle, rfl⟩ := h
  have starts {t : State} (hb : t.busy = true) (ho : t.curOp = .send) (hp : t.phases = phaseList .send)
      (hl : t.lenL = s.lenL) (hx : t.txbuf = s.txbuf) :
      InTxPhase .send (frameTicks (frameBytes s.lenL s.txbuf)) 0 { completePhase t with drive := .released } := by
    have started : completePhase t = startPhase .tx { t with phases := [.tx, .pad] } := by
      simp [completePhase, nextPhase, hp, phaseList]
    rw [started]
    refine ⟨hb, ho, rfl, rfl, ?_, rfl, rfl⟩
    rw [← hl, ← hx, ← waveLength_frameSegs]
    exact congrArg (fun op => waveLength (waveSegs op t.argL t.lenL t.txbuf)) ho
  have phase := ended.phase
  rw [tick_of_idle_phase P L busy idle] at phase ⊢
  obtain ⟨step, -⟩ | ⟨-, -, step⟩ | ⟨-, -, -, step⟩ := idleStep_cases P (monitorLine L s) <;> rw [step] at phase ⊢
  · simp [idle] at phase
  · exact starts (by simp [busy]) (by simp [curOp]) (by simp [phases]) (by simp) (by simp)
  · exact starts (by simp [busy]) (by simp [curOp]) (by simp [phases]) (by simp) (by simp)

@[simp] theorem afterTicks_txbuf (P : Config.Params) (L : Nat → Level) (n : Nat) (s : State) :
    (afterTicks P L n s).txbuf = s.txbuf := congrArg (·.2.2.2.1) (afterTicks_frame P L n s)

@[simp] theorem afterTicks_lenL (P : Config.Params) (L : Nat → Level) (n : Nat) (s : State) :
    (afterTicks P L n s).lenL = s.lenL := congrArg (·.2.2.2.2.2.1) (afterTicks_frame P L n s)

/-- SEND finishes within the bounds of its IDLE phase and of what follows (R105, R144, R207). -/
theorem send_finishesWithin (P : Config.Params) (L : Nat → Level) (arg : BitVec 8) (len : BitVec 6) (s : State) :
    FinishesWithin P L (accept .send arg len s) (P.idleTotalUs + P.idlePollUs - 1 +
      max (frameTicks (frameBytes len s.txbuf)) (P.wordGapUs + P.idlePollUs - 1)) := by
  have start : InIdlePhase .send 0 (accept .send arg len s) := ⟨rfl, rfl, rfl, rfl, rfl⟩
  obtain ⟨n, pos, bound, before, ended⟩ := idle_phase_ends P L (.inr rfl) start
  obtain ⟨k, rfl⟩ : ∃ k, n = k + 1 := ⟨n - 1, by omega⟩
  have sending := inTxPhase_of_idle_ended (before k (by omega)) ended
  rw [afterTicks_lenL, afterTicks_txbuf] at sending
  obtain ⟨N, one, within, finishes⟩ := FinishesWithin.after (fun m hm => (before m hm).busy)
    (send_finishesWithin_of_tx P _ (frameTicks_pos _) sending)
  exact ⟨N, one, within.trans (Nat.add_le_add_right bound _), finishes⟩

/-- RECEIVE is in its RX phase, `n` ticks of which have passed (R167). -/
structure InRxPhase (n : Nat) (s : State) : Prop where
  busy : s.busy = true
  phase : s.phase = .rx
  elapsed : s.rxE = n

/-- Measuring counts one tick, whatever pulse it completes (R167, R168). -/
theorem rxMeasure_in_rx_phase (L : Level) {n : Nat} {s : State} (h : InRxPhase n s) :
    InRxPhase (n + 1) (rxMeasure L s) := by
  obtain ⟨busy, rx, rfl⟩ := h
  obtain ⟨-, -, step⟩ | ⟨-, -, step⟩ | ⟨-, -, step⟩ := rxMeasure_cases L s <;> rw [step]
  · rw [deliverPulse_eq, measurePulse_eq]
    exact ⟨busy, rx, rfl⟩
  · rw [windowTimeout_eq, measurePulse_eq]
    exact ⟨busy, rx, rfl⟩
  · rw [measurePulse_eq]
    exact ⟨busy, rx, rfl⟩

/-- The RX phase ends at tick 60000 at the latest (R167). -/
theorem rx_phase_endsByTick (P : Config.Params) : EndsByTick P InRxPhase (fun _ => Finished) 60000 := by
  rintro n l s - ⟨busy, rx, elapsed⟩
  obtain ⟨running, still, counted⟩ := rxMeasure_in_rx_phase l (n := n) (s := monitorLine l s)
    ⟨by simp [busy], by simp [rx], by simp [elapsed]⟩
  rw [tick_of_rx_phase P l busy rx, rxStep]
  obtain ⟨-, step⟩ | ⟨-, -, step⟩ | ⟨-, early, step⟩ := rxEnd_cases (rxMeasure l (monitorLine l s)) <;> rw [step]
  · exact .inr ⟨rfl, rfl⟩
  · exact .inr ⟨rfl, rfl⟩
  · exact .inl ⟨counted ▸ early, running, still, counted⟩

/-- RECEIVE finishes within 60000 ticks (R167, R207). -/
theorem receive_finishesWithin (P : Config.Params) (L : Nat → Level) (arg : BitVec 8) (len : BitVec 6) (s : State) :
    FinishesWithin P L (accept .receive arg len s) 60000 :=
  (rx_phase_endsByTick P).finishesWithin (fun _ _ h => h.busy) (by decide) L ⟨rfl, rfl, rfl⟩

/-- RECEIVE 0 is Done at acceptance, so its first tick finishes it (R160, R167). -/
theorem receive_zero_finishesWithin (P : Config.Params) (L : Nat → Level) (arg : BitVec 8) (s : State) :
    FinishesWithin P L (accept .receive arg 0#6 s) 1 := by
  have quiet : NoPulseOn (L 1) (monitorLine (L 1) (accept .receive arg 0#6 s)).rxSub := by
    rw [monitorLine_rxSub]
    exact noPulseOn_waitLow (L 1)
  obtain ⟨w, measured⟩ := rxMeasure_of_noPulseOn quiet
  have done : (rxMeasure (L 1) (monitorLine (L 1) (accept .receive arg 0#6 s))).rxState = .done := by
    rw [measured]
    exact monitorLine_rxState (L 1) _
  have finished : Finished (tick P (L 1) (accept .receive arg 0#6 s)) := by
    rw [tick_of_rx_phase P (L 1) rfl rfl, rxStep]
    obtain ⟨-, step⟩ | ⟨notDone, -⟩ | ⟨notDone, -⟩ := rxEnd_cases (rxMeasure (L 1) (monitorLine (L 1) _))
    · rw [step]
      exact ⟨rfl, rfl⟩
    · exact absurd done notDone
    · exact absurd done notDone
  refine ⟨1, le_rfl, le_rfl, fun m hm => ?_, finished.busy, finished.done⟩
  rw [Nat.lt_one_iff.mp hm]
  rfl

/-- Every accepted command finishes within R207's bound. -/
theorem accept_finishesWithin (P : Config.Params) (L : Nat → Level) {i : Instr} (hop : i.op ≠ .nop) (s : State) :
    FinishesWithin P L (accept i.op i.arg i.len s) (commandBound P i s.txbuf) := by
  have sends (tx : OnlySends i.op) : FinishesWithin P L (accept i.op i.arg i.len s) (commandBound P i s.txbuf) :=
    ⟨_, commandBound_pos_of_onlySends P s.txbuf tx, le_rfl, onlySends_finishesAt P L tx s⟩
  cases i with
  | nop => exact absurd rfl hop
  | waitIdle arg len => exact waitIdle_finishesWithin P L arg len s
  | txSync => exact sends (.inl rfl)
  | txByte => exact sends (.inr (.inl rfl))
  | txFrame => exact sends (.inr (.inr rfl))
  | send arg len => exact send_finishesWithin P L arg len s
  | receive arg len =>
    by_cases zero : len = 0#6
    · subst zero
      exact receive_zero_finishesWithin P L arg s
    · have bound : commandBound P (.receive arg len) s.txbuf = 60000 := if_neg zero
      rw [bound]
      exact receive_finishesWithin P L arg len s

/-- Settles O58: a command that only sends finishes at its bound, every other one within it. -/
theorem everyAcceptedCommandEnds : Obligations.EveryAcceptedCommandEnds := by
  intro P L i s idle wf hop
  refine ⟨_, exec_of_wf idle wf hop, ?_⟩
  by_cases tx : OnlySends i.op
  · exact ⟨_, commandBound_pos_of_onlySends P s.txbuf tx, le_rfl, onlySends_finishesAt P L tx s, fun _ => rfl⟩
  · obtain ⟨n, pos, bound, finishes⟩ := accept_finishesWithin P L hop s
    exact ⟨n, pos, bound, finishes, fun sends => absurd sends tx⟩

end Sys2Proof.Machine
end

section
/-! Reset (10_state.md R11, 70_reset_and_hazards.md R220): what an edge with `rst_n` = 0 does, and what the registers
read after it. -/

namespace Sys2Proof.Machine

/-- An edge with `rst_n` = 0 has no other part than the reset: neither a tick nor a host access (R11). -/
theorem edgeStep_of_reset {s : State} (P : Config.Params) (h : (edgePins s).rstN = false) :
    edgeStep P s = .next (resetEdge P s) := by
  simp [edgeStep, h]

/-- While `rst_n` = 0 the pin is released, even in mid-mark (R11, R15). -/
theorem lineO_of_reset {s : State} (P : Config.Params) (h : (edgePins s).rstN = false) :
    lineO P s = !P.outActiveLevel := by
  simp [lineO, h]

/-- The line is not idle while nothing has been counted, since LINE_READY_US is never 0 (R6, R101). -/
theorem lineIdle_of_idleCnt_zero {s : State} (P : Config.Params) (h : s.idleCnt = 0#32) : lineIdle P s = false := by
  have ready : 601 ≤ P.lineReadyUs := P.lineReady_ge
  simp only [lineIdle, h, BitVec.toNat_zero, decide_eq_false_iff_not]
  omega

/-- The block's line monitor starts with no idle line (R220). -/
@[simp] theorem lineIdle_resetWith (P : Config.Params) : lineIdle P (State.resetWith P) = false :=
  lineIdle_of_idleCnt_zero P rfl

/-- STATUS resets to 0: LINE_IDLE is 0, and so is each code that R21 gives a field (R220). -/
theorem regRead_status_resetWith (P : Config.Params) : regRead P .status (State.resetWith P) = 0x00000000#32 := by
  show statusWord P _ = _
  rw [statusWord, lineIdle_resetWith]
  simp only [State.resetWith]
  decide

/-- A transmit buffer byte resets to 0 (R220). -/
theorem regRead_txbuf_resetWith (P : Config.Params) (i : Fin 32) :
    regRead P (.txbuf i) (State.resetWith P) = 0x00000000#32 := by
  simp [regRead, State.resetWith]

/-- A receive buffer byte resets to 0 (R220). -/
theorem regRead_rxbuf_resetWith (P : Config.Params) (i : Fin 16) :
    regRead P (.rxbuf i) (State.resetWith P) = 0x00000000#32 := by
  simp [regRead, State.resetWith]

/-- Settles O11: the reset branch of an edge, the registers by what they read, and the fields as `resetWith` gives
them. -/
theorem resetTakesAllStateToItsResetValue : Obligations.ResetTakesAllStateToItsResetValue := by
  refine ⟨fun s hr => ⟨edgeStep_of_reset _ hr, lineO_of_reset _ hr⟩, regRead_status_resetWith _, rfl, rfl, rfl,
    regRead_txbuf_resetWith _, regRead_rxbuf_resetWith _, rfl, rfl, lineIdle_resetWith _, ?_⟩
  and_intros <;> rfl

end Sys2Proof.Machine
end

section
/-! The CMD word both ways (30_encoding.md R60–R62, R68): encoding and then decoding, and decoding and then encoding. -/

namespace Sys2Proof

/-- Settles O1: `encode` writes one of the words that decode to the command, the one with the reserved bits 0. -/
theorem decodeOfEncodeIsTheCommand : Obligations.DecodeOfEncodeIsTheCommand := fun i hi lo =>
  ⟨decodeWord_cmdWord_opCode 0#10 0#4 i, decodeWord_cmdWord_opCode hi lo i⟩

/-- A word is put together from its fields, the reserved ones included (R60). -/
theorem cmdWord_extractLsb' (v : Word) :
    cmdWord (v.extractLsb' 22 10) (cmdLen v) (cmdArg v) (v.extractLsb' 4 4) (cmdOp v) = v := by
  have word : v.extractLsb' 22 10 ++ v.extractLsb' 16 6 ++ v.extractLsb' 8 8 ++ v.extractLsb' 4 4 ++
      v.extractLsb' 0 4 = v.extractLsb' 0 (10 + 6 + 8 + 4 + 4) := by
    simp (disch := rfl) only [BitVec.extractLsb'_append_extractLsb'_eq_extractLsb']
  exact word.trans BitVec.extractLsb'_eq_self

/-- A mask of whole fields keeps the fields in it and clears the reserved ones (R60, R61). -/
theorem cmdWord_and_used (hi : BitVec 10) (len : BitVec 6) (arg : BitVec 8) (lo op : BitVec 4) :
    cmdWord hi len arg lo op &&& 0x003FFF0F#32 = cmdWord 0#10 len arg 0#4 op := by
  have mask : 0x003FFF0F#32 = 0#10 ++ BitVec.allOnes 6 ++ BitVec.allOnes 8 ++ 0#4 ++ BitVec.allOnes 4 := by decide
  have fields : (hi ++ len ++ arg ++ lo ++ op) &&&
      (0#10 ++ BitVec.allOnes 6 ++ BitVec.allOnes 8 ++ 0#4 ++ BitVec.allOnes 4) =
        0#10 ++ len ++ arg ++ 0#4 ++ op := by
    simp only [BitVec.and_append, BitVec.and_zero, BitVec.and_allOnes]
  rw [mask]
  exact fields

/-- Settles O2: the used fields of the word are the command's, and the mask clears the others. -/
theorem encodeOfDecodeKeepsEveryUsedBit : Obligations.EncodeOfDecodeKeepsEveryUsedBit := by
  intro v i h
  obtain ⟨hop, harg, hlen⟩ := decodeWord_ok_fields h
  calc encode i = cmdWord 0#10 (cmdLen v) (cmdArg v) 0#4 (cmdOp v) := by rw [encode, hop, harg, hlen]
    _ = cmdWord (v.extractLsb' 22 10) (cmdLen v) (cmdArg v) (v.extractLsb' 4 4) (cmdOp v) &&& 0x003FFF0F#32 :=
        (cmdWord_and_used _ _ _ _ _).symm
    _ = v &&& 0x003FFF0F#32 := by rw [cmdWord_extractLsb']

/-- A command's own word decodes to it. -/
theorem decodeWord_of_encode_eq {v : Word} {i : Instr} (h : encode i = v) : decodeWord v = .ok i :=
  h ▸ (decodeOfEncodeIsTheCommand i 0#10 0#4).1

/-- Settles O4: each word of the table is the encoding of its command. -/
theorem exampleWordsDecode : Obligations.ExampleWordsDecode := by
  and_intros <;> exact decodeWord_of_encode_eq (by decide)

end Sys2Proof
end

section
/-! Every edge answers a next state (60_exceptions.md R207), and what the edges with a CMD write and in reset answer
(10_state.md R11, 20_memory.md R46, R49). -/

namespace Sys2Proof.Machine

/-- A register write always has a meaning (R205, R207). -/
theorem regWrite_total (r : Reg) (v : Word) (s : State) : ∃ t, regWrite r v s = .next t := by
  cases r
  case cmd =>
    obtain ⟨i, hi⟩ | ⟨-, reserved⟩ := decodeWord_cases v
    · simp only [regWrite, writeCmd, hi]
      cases i <;> exact ⟨_, rfl⟩
    · simp only [regWrite, writeCmd, reserved]
      exact ⟨_, rfl⟩
  all_goals exact ⟨_, rfl⟩

/-- Settles O10: an edge is the reset, or the block's own part with at most one register write after it. -/
theorem everyStepAnswersANextState : Obligations.EveryStepAnswersANextState := by
  intro s
  simp only [step, edgeStep, hostAccess]
  split_ifs
  · exact regWrite_total _ _ _
  · exact ⟨_, rfl⟩
  · exact ⟨_, rfl⟩

/-- CMD is at the offsets 0x000 to 0x003 (R19, R42). -/
theorem regOf_cmd {a : BitVec 9} (h : a.toNat < 4) : regOf a = .cmd := by
  have word : a.toNat / 4 = 0 := Nat.div_eq_of_lt h
  simp [regOf, word, fixedReg]

/-- A step at which the host writes a decodable word to CMD runs the command after the edge's own part (R46). -/
theorem step_of_cmd_write {s : State} {i : Instr} (hr : (edgePins s).rstN = true) (hsel : (edgePins s).busSel = true)
    (hwe : (edgePins s).busWe = true) (addr : (edgePins s).busAddr.toNat < 4)
    (word : decodeWord (edgePins s).busWdata = .ok i) :
    step s = exec i (clockEdge Config.params (edgePins s) (passEdge s)) := by
  rw [step, edgeStep, if_pos hr, hostAccess_of_write _ hsel hwe, regOf_cmd addr]
  simp only [regWrite, writeCmd, word]

/-- `withFetchWord` makes the next edge a CMD write of the word. -/
theorem edgePins_withFetchWord (s : State) (nbits w : Nat) :
    edgePins (s.withFetchWord nbits w) = cmdWritePins (tableWord nbits w) (edgePins s) := by
  rcases h : s.inputs with _ | ⟨p, ps⟩ <;> simp [State.withFetchWord, edgePins, h]

/-- `withFetchWord` changes nothing but the edge at hand. -/
theorem passEdge_withFetchWord (s : State) (nbits w : Nat) : passEdge (s.withFetchWord nbits w) = passEdge s := by
  rcases h : s.inputs with _ | ⟨p, ps⟩ <;> simp [State.withFetchWord, passEdge, h]

/-- Settles O5: `withFetchWord` is the case of a CMD write at offset 0x000. -/
theorem stepRunsTheDecodedCommand : Obligations.StepRunsTheDecodedCommand := by
  refine ⟨fun s i hr hsel hwe addr word => step_of_cmd_write hr hsel hwe addr word, fun s nbits w i h => ?_⟩
  have word : decodeWord (tableWord nbits w) = .ok i := by
    rcases d : decodeWord (tableWord nbits w) with e | j <;>
      simp only [decodeTableWord, d, Except.toOption, reduceCtorEq, Option.some.injEq] at h
    exact congrArg Except.ok h
  have pins := edgePins_withFetchWord s nbits w
  rw [step_of_cmd_write (i := i) (by rw [pins]; rfl) (by rw [pins]; rfl) (by rw [pins]; rfl)
    (by rw [pins]; exact Nat.zero_lt_succ 3) (by rw [pins]; exact word), pins, passEdge_withFetchWord]

/-- Settles O12: a reset edge reads of the state only the model's own fields. -/
theorem heldInResetTheBlockIgnoresTheBus : Obligations.HeldInResetTheBlockIgnoresTheBus := by
  refine ⟨fun s s' hr hr' inputs edge => ?_, fun s hr hsel hwe => ?_, fun s hr => lineO_of_reset _ hr⟩
  · rw [step, step, edgeStep_of_reset _ hr, edgeStep_of_reset _ hr', resetEdge, resetEdge, inputs, edge]
  · simp only [busRdata, hr, hsel, hwe, if_true, Bool.false_eq_true, if_false, State.reset]

end Sys2Proof.Machine
end

section
/-! TICK_DIV edges as one tick (10_state.md R12, R13): the edges before the tick count and shift the synchroniser, and
the tick commutes with them. -/

namespace Sys2Proof.Machine

/-- The synchroniser and the pins `ps` of the coming edges, as a queue of pin levels: SYNC2 is at its head (R13). -/
def syncPipe (s : State) (ps : List Config.Pins) : List Bool := s.sync2 :: s.sync1 :: ps.map (·.lineI)

/-- An edge without a reset or a register write (R46). -/
def QuietPins (p : Config.Pins) : Prop := p.rstN = true ∧ (p.busSel && p.busWe) = false

/-- `s` with the clock's own fields as given. -/
def withClock (presc : Nat) (sync1 sync2 : Bool) (inputs : List Config.Pins) (edge : Nat) (s : State) : State :=
  { s with presc := presc, sync1 := sync1, sync2 := sync2, inputs := inputs, edge := edge }

/-- `s` after an edge that is no tick, where nothing resets or writes (R12, R13). -/
def afterQuietEdge (p : Config.Pins) (s : State) : State :=
  withClock (s.presc + 1) p.lineI s.sync1 s.inputs.tail (s.edge + 1) s

/-- The clock's own fields do not enter a tick, nor does it write them (R16). -/
theorem tick_withClock (P : Config.Params) (L : Level) (presc : Nat) (sync1 sync2 : Bool) (inputs : List Config.Pins)
    (edge : Nat) (s : State) : tick P L (withClock presc sync1 sync2 inputs edge s) =
      withClock presc sync1 sync2 inputs edge (tick P L s) := by
  refine (tick_withOutside ⟨s.line, presc, sync1, sync2, s.drive, inputs, edge⟩ P L s).trans ?_
  simp only [withClock, State.withOutside, ← tick_line P L s, ← tick_drive P L s]

/-- Quiet edges up to the next tick are that tick, on the sample that then leaves the synchroniser. -/
theorem run_to_tick (ps rest : List Config.Pins) (s : State) (below : s.presc < tickDiv Config.params)
    (count : s.presc + ps.length = tickDiv Config.params) (inputs : s.inputs = ps ++ rest)
    (quiet : ∀ p ∈ ps, QuietPins p) :
    Host.Core.run Sys2Proof.core ps.length s = .next (withClock 0
      ((syncPipe s ps).getD (ps.length + 1) false) ((syncPipe s ps).getD ps.length false) rest (s.edge + ps.length)
      (tick Config.params (lineLevel Config.params ((syncPipe s ps).getD (ps.length - 1) false)) s)) := by
  induction ps generalizing s with
  | nil => simp only [List.length_nil] at count; omega
  | cons p ps ih =>
    have pins : edgePins s = p := by simp [edgePins, inputs]
    obtain ⟨hr, hw⟩ : QuietPins (edgePins s) := pins ▸ quiet p (by simp)
    obtain ⟨quietEdge, tickEdge⟩ := tickOccursOncePerTickDivEdges.2.2 s hr hw
    have tail : s.inputs.tail = ps ++ rest := by rw [inputs]; rfl
    rw [List.length_cons] at count ⊢
    obtain last | more := Nat.eq_or_lt_of_le (Nat.succ_le_of_lt below)
    · obtain rfl : ps = [] := List.eq_nil_of_length_eq_zero (by omega)
      have stepped : Sys2Proof.core.step s = _ := tickEdge last
      simp only [List.length_nil, Host.Core.run, stepped, pins, tail]
      rfl
    · have stepped : Sys2Proof.core.step s = .next (afterQuietEdge p s) := by
        refine (quietEdge more).trans ?_
        rw [pins]
        rfl
      obtain ⟨m, len⟩ : ∃ m, ps.length = m + 1 := ⟨ps.length - 1, by omega⟩
      have rest_run := ih (afterQuietEdge p s) more (by simp only [afterQuietEdge, withClock]; omega) tail
        fun q hq => quiet q (by simp [hq])
      have shifted : syncPipe s (p :: ps) = s.sync2 :: syncPipe (afterQuietEdge p s) ps := rfl
      have onward : Host.Core.run Sys2Proof.core (ps.length + 1) s =
          Host.Core.run Sys2Proof.core ps.length (afterQuietEdge p s) := by
        simp only [Host.Core.run, stepped]
      rw [onward, rest_run, shifted, len]
      simp only [afterQuietEdge, tick_withClock, Nat.add_sub_cancel, List.getD_cons_succ]
      simp only [withClock, Nat.add_assoc, Nat.add_comm 1]

/-- Settles O9: from PRESC = 0 the next tick is TICK_DIV edges away. -/
theorem tickDivEdgesAreOneTick : Obligations.TickDivEdgesAreOneTick := by
  intro s ps rest presc inputs len quiet pipe n
  have run := run_to_tick ps rest s (by have := two_le_tickDiv Config.params; omega) (by omega) inputs quiet
  rw [len] at run
  refine run.trans ?_
  simp only [withClock, tick_presc, presc]
  rfl

end Sys2Proof.Machine
end

section
/-! The accepted state of each command, field by field (40_command_interface.md R82–R85). -/

namespace Sys2Proof.Machine

/-- Settles O16. -/
theorem waitIdleIsAccepted : Obligations.WaitIdleIsAccepted := fun arg len _ idle => exec_waitIdle arg len idle

/-- Settles O17. -/
theorem txSyncIsAccepted : Obligations.TxSyncIsAccepted := fun arg len _ idle =>
  exec_of_wf (i := .txSync arg len) idle rfl nofun

/-- A byte's segments, one bit after the other, bit 7 first (R45, R120). -/
theorem byteSegs_eq_flatMap (x : Byte) : byteSegs x = (List.range 8).flatMap fun j => bitSegs (x.getLsbD (7 - j)) := rfl

/-- Settles O18: the waveform is the bits' segments, bit 7 first. -/
theorem txByteIsAccepted : Obligations.TxByteIsAccepted := fun arg len _ idle =>
  exec_of_wf (i := .txByte arg len) idle rfl nofun

/-- The bytes of a frame by their indices in TXBUF (R45, R120). -/
theorem frameBytes_eq_map {len : BitVec 6} (txbuf : Vector Byte 32) (legal : len.toNat ≤ 32) :
    frameBytes len txbuf = (List.range len.toNat).map fun i => txbuf[i]?.getD 0x00#8 := by
  refine List.ext_getElem (by simp [frameBytes, legal]) fun i hi _ => ?_
  have inside : i < 32 := by simp [frameBytes] at hi; omega
  simp [frameBytes, inside]

/-- Settles O19: the frame's bytes are TXBUF's first. -/
theorem txFrameIsAccepted : Obligations.TxFrameIsAccepted := by
  intro arg len s idle pos legal
  have wf : (Instr.txFrame arg len).wf = true := (legalLen_txFrame len).mpr ⟨pos, legal⟩
  rw [exec_of_wf idle wf nofun, ← frameBytes_eq_map s.txbuf legal]
  rfl

/-- Settles O20. -/
theorem sendIsAccepted : Obligations.SendIsAccepted := fun arg len _ idle low high =>
  exec_of_wf (i := .send arg len) idle ((legalLen_send len).mpr ⟨low, high⟩) nofun

/-- A legal LEN of RECEIVE fits into RX_LEN (R30, R67). -/
theorem toNat_setWidth_of_le {len : BitVec 6} (legal : len.toNat ≤ 16) : (len.setWidth 5).toNat = len.toNat := by
  rw [BitVec.toNat_setWidth, Nat.mod_eq_of_lt (by omega)]

/-- Settles O21. -/
theorem receiveIsAccepted : Obligations.ReceiveIsAccepted := fun arg _ _ idle legal =>
  ⟨_, exec_receive arg idle legal, rfl, toNat_setWidth_of_le legal⟩

/-- Settles O59: such a tick is the monitor's. -/
theorem idleTicksKeepTheResults : Obligations.IdleTicksKeepTheResults := by
  intro P L s idle
  rw [tick_of_not_busy P L s idle]
  cases L <;> exact ⟨_, rfl⟩

end Sys2Proof.Machine
end

section
/-! The receiver's fields (10_state.md R22, R26, R28, R30): only an RX step and the acceptance of RECEIVE write them. -/

namespace Sys2Proof.Machine

/-- The fields of the receiver. -/
structure Receiver where
  rxCount : BitVec 5
  rxState : RxState
  rxBitIdx : BitVec 3
  rxAcc : Byte
  lastWidth : BitVec 16
  lastClass : PulseClass
  rxbuf : Vector Byte 16
  rxSub : RxSub
  rxWidth : Nat
  rxW : Nat
  rxE : Nat
  rxLen : BitVec 5

/-- The receiver's fields as they stand in `s`. -/
def State.receiver (s : State) : Receiver where
  rxCount := s.rxCount
  rxState := s.rxState
  rxBitIdx := s.rxBitIdx
  rxAcc := s.rxAcc
  lastWidth := s.lastWidth
  lastClass := s.lastClass
  rxbuf := s.rxbuf
  rxSub := s.rxSub
  rxWidth := s.rxWidth
  rxW := s.rxW
  rxE := s.rxE
  rxLen := s.rxLen

section
variable (P : Config.Params) (L : Level) (s : State)

@[simp] theorem raiseError_receiver (c : ErrorCond) : (raiseError c s).receiver = s.receiver := by cases c <;> rfl
@[simp] theorem clearErrors_receiver (v : Word) : (clearErrors v s).receiver = s.receiver := rfl
@[simp] theorem finish_receiver : (finish s).receiver = s.receiver := rfl
@[simp] theorem startPhase_receiver (p : Phase) : (startPhase p s).receiver = s.receiver := by cases p <;> rfl
@[simp] theorem latchCommand_receiver (op : Op) (arg : BitVec 8) (len : BitVec 6) :
    (latchCommand op arg len s).receiver = s.receiver := rfl
@[simp] theorem monitorLine_receiver : (monitorLine L s).receiver = s.receiver := by cases L <;> rfl

@[simp] theorem nextPhase_receiver : (nextPhase s).receiver = s.receiver := by
  rcases h : s.phases with _ | ⟨p, ps⟩ <;> simp [nextPhase, h]

@[simp] theorem completePhase_receiver : (completePhase s).receiver = s.receiver :=
  nextPhase_receiver { s with phases := s.phases.tail }

@[simp] theorem idleStep_receiver : (idleStep P s).receiver = s.receiver := by
  obtain ⟨h, -⟩ | ⟨-, -, h⟩ | ⟨-, -, -, h⟩ := idleStep_cases P s <;> rw [h]
  · rfl
  · exact completePhase_receiver _
  · exact completePhase_receiver _

@[simp] theorem sendTxEnd_receiver : (sendTxEnd P L s).receiver = s.receiver := by
  obtain ⟨-, h⟩ | ⟨-, -, h⟩ | ⟨-, -, h⟩ := sendTxEnd_cases P L s <;> rw [h]
  · rfl
  · rfl
  · exact completePhase_receiver s

@[simp] theorem txStep_receiver : (txStep P L s).receiver = s.receiver := by
  obtain ⟨-, h⟩ | ⟨-, -, h⟩ | ⟨-, -, h⟩ := txStep_cases P L s <;> rw [h]
  · rfl
  · exact sendTxEnd_receiver P L _
  · exact completePhase_receiver _

@[simp] theorem padStep_receiver : (padStep P L s).receiver = s.receiver := by
  obtain ⟨h, -⟩ | ⟨-, -, h⟩ | ⟨-, -, -, h⟩ := padStep_cases P L s <;> rw [h]
  · rfl
  · exact completePhase_receiver _
  · exact completePhase_receiver _

/-- A phase step other than RX's leaves the receiver alone. -/
theorem phaseStep_receiver (h : s.phase ≠ .rx) : (phaseStep P L s).receiver = s.receiver := by
  cases p : s.phase <;> simp only [phaseStep, p]
  case rx => exact absurd p h
  case idle => exact idleStep_receiver P s
  case tx => exact txStep_receiver P L s
  case pad => exact padStep_receiver P L s

/-- So does a tick outside the RX phase (R22). -/
theorem tick_receiver (h : s.busy = false ∨ s.phase ≠ .rx) : (tick P L s).receiver = s.receiver := by
  cases b : s.busy
  · rw [tick_of_not_busy P L s b]
    exact monitorLine_receiver L s
  · have other : (monitorLine L s).phase ≠ .rx := by simpa [b] using h
    rw [tick_of_busy P L s b]
    exact (phaseStep_receiver P L _ other).trans (monitorLine_receiver L s)

/-- Acceptance of a command other than RECEIVE leaves the receiver alone (R82). -/
theorem submit_receiver {op : Op} (arg : BitVec 8) (len : BitVec 6) (h : op ≠ .receive) :
    (submit op arg len s).receiver = s.receiver := by
  obtain ⟨-, w⟩ | ⟨-, -, w⟩ | ⟨-, -, w⟩ := submit_cases op arg len s <;> rw [w]
  · exact raiseError_receiver s _
  · exact raiseError_receiver s _
  · rw [accept_of_ne_receive arg len s h, nextPhase_receiver, latchCommand_receiver]

theorem submitReserved_receiver : (submitReserved s).receiver = s.receiver := by
  obtain ⟨-, h⟩ | ⟨-, h⟩ := submitReserved_cases s <;> rw [h, raiseError_receiver]

theorem writeTxbuf_receiver (i : Fin 32) (v : Word) : (writeTxbuf i v s).receiver = s.receiver := by
  obtain ⟨-, h⟩ | ⟨-, h⟩ := writeTxbuf_cases i v s <;> rw [h]
  · exact raiseError_receiver s _
  · rfl

end

/-- A register write that is no CMD write of RECEIVE leaves the receiver alone (R22). -/
theorem regWrite_receiver {r : Reg} {v : Word} {s t : State} (h : regWrite r v s = .next t)
    (other : ¬ (r = .cmd ∧ cmdOp v = 6#4)) : t.receiver = s.receiver := by
  obtain rfl | ⟨-, rfl⟩ | ⟨i, -, rfl⟩ | ⟨cmd, i, hi, -, rfl⟩ | ⟨-, -, -, rfl⟩ := regWrite_cases h
  · rfl
  · exact clearErrors_receiver s v
  · exact writeTxbuf_receiver s i v
  · refine submit_receiver s i.arg i.len fun receive => other ⟨cmd, ?_⟩
    rw [(decodeWord_ok_fields hi).1, receive]
    rfl
  · exact submitReserved_receiver s

/-- Settles O60: ticks by `tick_receiver`, writes by `regWrite_receiver`. -/
theorem receiverFieldsChangeOnlyByReceive : Obligations.ReceiverFieldsChangeOnlyByReceive := by
  have fields {s t : State} (h : t.receiver = s.receiver) :
      t.rxCount = s.rxCount ∧ t.rxState = s.rxState ∧ t.rxBitIdx = s.rxBitIdx ∧ t.rxAcc = s.rxAcc ∧
      t.lastWidth = s.lastWidth ∧ t.lastClass = s.lastClass ∧ t.rxbuf = s.rxbuf :=
    ⟨congrArg Receiver.rxCount h, congrArg Receiver.rxState h, congrArg Receiver.rxBitIdx h,
      congrArg Receiver.rxAcc h, congrArg Receiver.lastWidth h, congrArg Receiver.lastClass h,
      congrArg Receiver.rxbuf h⟩
  exact ⟨fun P L s h => fields (tick_receiver P L s h), fun r v s t h other => fields (regWrite_receiver h other)⟩

end Sys2Proof.Machine
end

section
/-! What an edge can do to the error flags and to a running command (60_exceptions.md R200–R203, R210,
40_command_interface.md R81, R89). -/

namespace Sys2Proof.Machine

/-- CMD and STATUS are one word each, and no word below TXBUF is one of its bytes (R19). -/
theorem fixedReg_cases (n : Nat) :
    (fixedReg n = .cmd → n = 0) ∧ (fixedReg n = .status → n = 1) ∧ ∀ i, fixedReg n ≠ .txbuf i := by
  unfold fixedReg
  split <;> simp

/-- The writable registers by the offsets that reach them (R19, R42). -/
theorem regOf_cases (a : BitVec 9) :
    (regOf a = .cmd → a.toNat < 4) ∧ (regOf a = .status → a.toNat / 4 = 1) ∧
    ∀ i, regOf a = .txbuf i → 0x100 ≤ a.toNat ∧ a.toNat < 0x180 := by
  dsimp only [regOf]
  split_ifs with txbuf rxbuf
  · exact ⟨nofun, nofun, fun _ _ => by omega⟩
  · exact ⟨nofun, nofun, nofun⟩
  · obtain ⟨cmd, status, other⟩ := fixedReg_cases (a.toNat / 4)
    exact ⟨fun h => by have := cmd h; omega, status, fun i h => absurd h (other i)⟩

/-- A host write of `v` to `r` that is dropped for the reason `c` (R80, R89, R200). -/
def Refused (c : ErrorCond) (r : Reg) (v : Word) (s : State) : Prop :=
  match c with
  | .busy => s.busy = true ∧
    ((r = .cmd ∧ cmdOp v ≠ 0#4) ∨ ((∃ i, r = .txbuf i) ∧ (s.curOp = .txFrame ∨ s.curOp = .send)))
  | .op => s.busy = false ∧ r = .cmd ∧ 7 ≤ (cmdOp v).toNat
  | .len => s.busy = false ∧ r = .cmd ∧
    ((cmdOp v = 4#4 ∧ ((cmdLen v).toNat < 1 ∨ 32 < (cmdLen v).toNat)) ∨
      (cmdOp v = 5#4 ∧ ((cmdLen v).toNat < 2 ∨ 4 < (cmdLen v).toNat)) ∨
      (cmdOp v = 6#4 ∧ 16 < (cmdLen v).toNat))

/-- The error flag of a condition (R200). -/
def errorFlag (c : ErrorCond) (s : State) : Bool :=
  match c with
  | .busy => s.errBusy
  | .op => s.errOp
  | .len => s.errLen

/-- The bit of STATUS that shows the error flag, and clears it when written as 1 (R21, R88). -/
def errorBit : ErrorCond → Nat
  | .busy => 16
  | .op => 17
  | .len => 18

theorem errorFlag_raiseError (c d : ErrorCond) (s : State) :
    errorFlag c (raiseError d s) = (errorFlag c s || d == c) := by
  cases c
  · exact raiseError_errBusy d s
  · exact raiseError_errOp d s
  · exact raiseError_errLen d s

theorem errorFlag_clearErrors (c : ErrorCond) (v : Word) (s : State) :
    errorFlag c (clearErrors v s) = (errorFlag c s && !v.getLsbD (errorBit c)) := by
  cases c <;> rfl

theorem errorFlag_nextPhase (c : ErrorCond) (s : State) : errorFlag c (nextPhase s) = errorFlag c s := by
  rcases h : s.phases with _ | ⟨p, ps⟩ <;> cases c <;> simp [nextPhase, h, errorFlag]

/-- Acceptance leaves the error flags alone (R82, R200). -/
theorem errorFlag_accept (c : ErrorCond) (op : Op) (arg : BitVec 8) (len : BitVec 6) (s : State) :
    errorFlag c (accept op arg len s) = errorFlag c s := by
  rw [accept, errorFlag_nextPhase]
  split <;> cases c <;> rfl

/-- The block's own part of an edge leaves the error flags alone (R204). -/
theorem errorFlag_clockEdge (c : ErrorCond) (P : Config.Params) (p : Config.Pins) (s : State) :
    errorFlag c (clockEdge P p (passEdge s)) = errorFlag c s := by
  cases c <;> simp [errorFlag]

/-- LEN outside its opcode's range, by the word's OP (R67). -/
theorem refused_len_of_not_legal {v : Word} {i : Instr} (hi : decodeWord v = .ok i)
    (ill : legalLen i.op i.len = false) {s : State} (idle : s.busy = false) : Refused .len .cmd v s := by
  obtain ⟨hop, -, hlen⟩ := decodeWord_ok_fields hi
  rw [← Bool.not_eq_true, legalLen_iff, ← hop, ← hlen] at ill
  refine ⟨idle, rfl, ?_⟩
  by_contra legal
  simp only [not_or, not_and, not_lt] at legal
  exact ill legal

/-- What a register write does to the error flags: none changes, or the write is STATUS's and clears, or the write is
refused and has no other effect (R88, R200, R205). -/
theorem regWrite_errorFlag {r : Reg} {v : Word} {s t : State} (h : regWrite r v s = .next t) :
    (∀ c, errorFlag c t = errorFlag c s) ∨ (r = .status ∧ t = clearErrors v s) ∨
    ∃ d, Refused d r v s ∧ t = raiseError d s := by
  obtain rfl | ⟨rfl, rfl⟩ | ⟨i, rfl, rfl⟩ | ⟨rfl, i, hi, hop, rfl⟩ | ⟨rfl, op, ho, rfl⟩ := regWrite_cases h
  · exact .inl fun _ => rfl
  · exact .inr (.inl ⟨rfl, rfl⟩)
  · obtain ⟨locked, w⟩ | ⟨-, w⟩ := writeTxbuf_cases i v s <;> rw [w]
    · obtain ⟨busy, frame⟩ := txbufLocked_iff.mp locked
      exact .inr (.inr ⟨.busy, ⟨busy, .inr ⟨⟨i, rfl⟩, frame⟩⟩, rfl⟩)
    · exact .inl fun c => by cases c <;> rfl
  · obtain ⟨busy, w⟩ | ⟨idle, ill, w⟩ | ⟨-, -, w⟩ := submit_cases i.op i.arg i.len s <;> rw [w]
    · have command : cmdOp v ≠ 0#4 := (decodeWord_ok_fields hi).1 ▸ mt opCode_eq_zero.mp hop
      exact .inr (.inr ⟨.busy, ⟨busy, .inl ⟨rfl, command⟩⟩, rfl⟩)
    · exact .inr (.inr ⟨.len, refused_len_of_not_legal hi ill idle, rfl⟩)
    · exact .inl fun c => errorFlag_accept c _ _ _ _
  · obtain ⟨i, hi⟩ | ⟨reserved, -⟩ := decodeWord_cases v
    · rw [hi] at ho; cases ho
    · obtain ⟨busy, w⟩ | ⟨idle, w⟩ := submitReserved_cases s <;> rw [w]
      · have command : cmdOp v ≠ 0#4 := fun zero => by simp [zero] at reserved
        exact .inr (.inr ⟨.busy, ⟨busy, .inl ⟨rfl, command⟩⟩, rfl⟩)
      · exact .inr (.inr ⟨.op, ⟨idle, rfl, reserved⟩, rfl⟩)

/-- An edge without reset changes an error flag only by a register write: it sets the flag by a write refused for its
reason, and clears it by a 1 written to its bit of STATUS (R200, R210). -/
theorem edgeStep_errorFlag {P : Config.Params} {s t : State} (hr : (edgePins s).rstN = true)
    (h : edgeStep P s = .next t) (c : ErrorCond) :
    (errorFlag c t = true → errorFlag c s = false →
      ((edgePins s).busSel = true ∧ (edgePins s).busWe = true) ∧
      Refused c (regOf (edgePins s).busAddr) (edgePins s).busWdata (clockEdge P (edgePins s) (passEdge s))) ∧
    (errorFlag c t = false → errorFlag c s = true →
      ((edgePins s).busSel = true ∧ (edgePins s).busWe = true) ∧
      regOf (edgePins s).busAddr = .status ∧ (edgePins s).busWdata.getLsbD (errorBit c) = true) := by
  have own := errorFlag_clockEdge c P (edgePins s) s
  have unchanged {p q : Prop} (same : errorFlag c t = errorFlag c s) :
      (errorFlag c t = true → errorFlag c s = false → p) ∧ (errorFlag c t = false → errorFlag c s = true → q) := by
    rw [same]
    exact ⟨fun set clear => by simp [set] at clear, fun clear set => by simp [set] at clear⟩
  obtain ⟨hr', -⟩ | ⟨-, -, rfl⟩ | ⟨-, sel, we, w⟩ := edgeStep_cases h
  · simp [hr] at hr'
  · exact unchanged own
  · obtain same | ⟨status, rfl⟩ | ⟨d, refused, rfl⟩ := regWrite_errorFlag w
    · exact unchanged ((same c).trans own)
    · rw [errorFlag_clearErrors, own]
      exact ⟨fun set clear => by simp [clear] at set, fun clear set => ⟨⟨sel, we⟩, status, by simpa [set] using clear⟩⟩
    · rw [errorFlag_raiseError, own]
      refine ⟨fun set clear => ⟨⟨sel, we⟩, ?_⟩, fun clear set => by simp [set] at clear⟩
      obtain rfl : d = c := by simpa [clear] using set
      exact refused

/-- Settles O32: `edgeStep_errorFlag` for each flag, with the offsets of the registers. -/
theorem errorFlagsChangeOnlyByTheirWrites : Obligations.ErrorFlagsChangeOnlyByTheirWrites := by
  intro s t hr h p write op len busyThen curThen
  obtain ⟨cmdAddr, statusAddr, txbufAddr⟩ := regOf_cases p.busAddr
  have cleared (c : ErrorCond) (clear : errorFlag c t = false) (set : errorFlag c s = true) :
      write ∧ p.busAddr.toNat / 4 = 1 ∧ p.busWdata.getLsbD (errorBit c) = true := by
    obtain ⟨written, status, bit⟩ := (edgeStep_errorFlag hr h c).2 clear set
    exact ⟨written, statusAddr status, bit⟩
  refine ⟨fun set clear => ?_, fun set clear => ?_, fun set clear => ?_, cleared .busy, cleared .op, cleared .len⟩
  · obtain ⟨written, busy, ⟨cmd, hop⟩ | ⟨⟨i, txbuf⟩, frame⟩⟩ := (edgeStep_errorFlag hr h .busy).1 set clear
    · exact ⟨written, busy, .inl ⟨cmdAddr cmd, hop⟩⟩
    · obtain ⟨low, high⟩ := txbufAddr i txbuf
      exact ⟨written, busy, .inr ⟨low, high, frame⟩⟩
  · obtain ⟨written, idle, cmd, reserved⟩ := (edgeStep_errorFlag hr h .op).1 set clear
    exact ⟨written, idle, cmdAddr cmd, reserved⟩
  · obtain ⟨written, idle, cmd, illegal⟩ := (edgeStep_errorFlag hr h .len).1 set clear
    exact ⟨written, idle, cmdAddr cmd, illegal⟩

/-- While a command runs, a register write changes the error flags and TXBUF only, and TXBUF only if the command sends
no frame from it (R81, R89, R201). -/
theorem regWrite_of_busy {r : Reg} {v : Word} {s t : State} (busy : s.busy = true) (h : regWrite r v s = .next t) :
    t = { s with errBusy := t.errBusy, errOp := t.errOp, errLen := t.errLen, txbuf := t.txbuf } ∧
    (t.txbuf ≠ s.txbuf → s.curOp ≠ .txFrame ∧ s.curOp ≠ .send) := by
  obtain rfl | ⟨-, rfl⟩ | ⟨i, -, rfl⟩ | ⟨-, i, -, -, rfl⟩ | ⟨-, -, -, rfl⟩ := regWrite_cases h
  · exact ⟨rfl, fun changed => absurd rfl changed⟩
  · exact ⟨rfl, fun changed => absurd rfl changed⟩
  · obtain ⟨-, w⟩ | ⟨unlocked, w⟩ := writeTxbuf_cases i v s <;> rw [w]
    · exact ⟨rfl, fun changed => absurd rfl changed⟩
    · exact ⟨rfl, fun _ => not_or.mp fun frame => by simp [txbufLocked_iff.mpr ⟨busy, frame⟩] at unlocked⟩
  · rw [submit_of_busy _ _ _ busy]
    exact ⟨rfl, fun changed => absurd rfl changed⟩
  · rw [submitReserved_of_busy busy]
    exact ⟨rfl, fun changed => absurd rfl changed⟩

/-- Settles O33: such an edge's own part moves the clock only, and its write meets a running command. -/
theorem noWritePreemptsTheRunningCommand : Obligations.NoWritePreemptsTheRunningCommand := by
  intro s t busy hr presc h
  have own := clockEdge_of_not_tick (s := passEdge s) (edgePins s) presc
  obtain ⟨hr', -⟩ | ⟨-, -, rfl⟩ | ⟨-, -, -, w⟩ := edgeStep_cases h
  · simp [hr] at hr'
  · rw [own]
    exact ⟨rfl, fun changed => absurd rfl changed⟩
  · rw [own] at w
    exact regWrite_of_busy (by exact busy) w

/-- The phase that completes is not the command's last when the command goes on, so CUR_OP stays (R86, R87). -/
theorem completePhase_curOp {s : State} (h : (completePhase s).busy = true) : (completePhase s).curOp = s.curOp := by
  obtain ⟨-, w⟩ | ⟨p, ps, -, w⟩ := completePhase_cases s <;> rw [w] at h ⊢
  · simp at h
  · rw [startPhase_curOp]

theorem idleStep_curOp {P : Config.Params} {s : State} (h : (idleStep P s).busy = true) :
    (idleStep P s).curOp = s.curOp := by
  obtain ⟨w, -⟩ | ⟨-, -, w⟩ | ⟨-, -, -, w⟩ := idleStep_cases P s <;> rw [w] at h ⊢
  · exact completePhase_curOp h
  · exact completePhase_curOp h

theorem txStep_curOp {P : Config.Params} {L : Level} {s : State} (h : (txStep P L s).busy = true) :
    (txStep P L s).curOp = s.curOp := by
  obtain ⟨-, w⟩ | ⟨-, -, w⟩ | ⟨-, -, w⟩ := txStep_cases P L s <;> rw [w] at h ⊢
  · obtain ⟨-, e⟩ | ⟨-, -, e⟩ | ⟨-, -, e⟩ := sendTxEnd_cases P L { s with txPos := s.txPos + 1, e := s.e + 1 } <;>
      rw [e] at h ⊢
    · simp at h
    · simp at h
    · exact completePhase_curOp h
  · exact completePhase_curOp h

theorem padStep_curOp {P : Config.Params} {L : Level} {s : State} (h : (padStep P L s).busy = true) :
    (padStep P L s).curOp = s.curOp := by
  obtain ⟨w, -⟩ | ⟨-, -, w⟩ | ⟨-, -, -, w⟩ := padStep_cases P L s <;> rw [w] at h ⊢
  · exact completePhase_curOp h
  · exact completePhase_curOp h

/-- `rx_step(L)` up to its end writes the receiver only (R168). -/
theorem rxMeasure_eq (L : Level) (s : State) :
    rxMeasure L s = { s with
      rxCount := (rxMeasure L s).rxCount, rxState := (rxMeasure L s).rxState
      rxBitIdx := (rxMeasure L s).rxBitIdx, rxAcc := (rxMeasure L s).rxAcc
      lastWidth := (rxMeasure L s).lastWidth, lastClass := (rxMeasure L s).lastClass
      rxbuf := (rxMeasure L s).rxbuf, rxSub := (rxMeasure L s).rxSub, rxWidth := (rxMeasure L s).rxWidth
      rxW := (rxMeasure L s).rxW, rxE := s.rxE + 1 } := by
  obtain ⟨-, -, h⟩ | ⟨-, -, h⟩ | ⟨-, -, h⟩ := rxMeasure_cases L s <;> rw [h]
  · rw [deliverPulse_eq, measurePulse_eq]
  · rw [windowTimeout_eq, measurePulse_eq]
  · rw [measurePulse_eq]

theorem rxStep_curOp {L : Level} {s : State} (h : (rxStep L s).busy = true) : (rxStep L s).curOp = s.curOp := by
  rw [rxStep] at h ⊢
  obtain ⟨-, w⟩ | ⟨-, -, w⟩ | ⟨-, -, w⟩ := rxEnd_cases (rxMeasure L s) <;> rw [w] at h ⊢
  · simp at h
  · simp at h
  · rw [rxMeasure_eq]

theorem phaseStep_curOp {P : Config.Params} {L : Level} {s : State} (h : (phaseStep P L s).busy = true) :
    (phaseStep P L s).curOp = s.curOp := by
  cases p : s.phase <;> simp only [phaseStep, p] at h ⊢
  case idle => exact idleStep_curOp h
  case tx => exact txStep_curOp h
  case pad => exact padStep_curOp h
  case rx => exact rxStep_curOp h

/-- A tick after which the command still runs has not changed CUR_OP (R16, R87). -/
theorem tick_curOp {P : Config.Params} {L : Level} {s : State} (h : (tick P L s).busy = true) :
    (tick P L s).curOp = s.curOp := by
  cases busy : s.busy
  · rw [tick_of_not_busy P L s busy]
    exact monitorLine_curOp L s
  · rw [tick_of_busy P L s busy] at h ⊢
    exact (phaseStep_curOp h).trans (monitorLine_curOp L s)

/-- The block's own part of an edge either keeps CUR_OP or ends the command. -/
theorem clockEdge_curOp {P : Config.Params} {p : Config.Pins} {s : State} (h : (clockEdge P p s).busy = true) :
    (clockEdge P p s).curOp = s.curOp := by
  cases t : isTick P s <;> simp only [clockEdge, t, if_true, Bool.false_eq_true, if_false] at h ⊢
  exact tick_curOp h

/-- Settles O34: after the edge's own part the frame still runs, so the write that meets it leaves TXBUF alone. -/
theorem theFrameInFlightIsFrozen : Obligations.TheFrameInFlightIsFrozen := by
  intro s t hr h running busy frame
  have curOp := clockEdge_curOp running
  obtain ⟨hr', -⟩ | ⟨-, -, rfl⟩ | ⟨-, -, -, w⟩ := edgeStep_cases h
  · simp [hr] at hr'
  · simp
  · obtain ⟨written, changed⟩ := regWrite_of_busy running w
    have kept : t.txbuf = (clockEdge Config.params (edgePins s) (passEdge s)).txbuf := by
      by_contra diff
      rw [curOp] at changed
      exact not_or.mpr (changed diff) frame
    exact ⟨kept.trans (clockEdge_txbuf Config.params _ _),
      (congrArg State.argL written).trans (clockEdge_argL Config.params (edgePins s) (passEdge s)),
      (congrArg State.lenL written).trans (clockEdge_lenL Config.params (edgePins s) (passEdge s))⟩

end Sys2Proof.Machine
end

section
/-! At which tick WAIT_IDLE finishes (41_line_monitor.md R102, R103). -/

namespace Sys2Proof.Machine

/-- The line is idle at tick `n` (R101). -/
def IdleAt (P : Config.Params) (L : Nat → Level) (s : State) (n : Nat) : Prop :=
  P.lineReadyUs ≤ (afterTicks P L n s).idleCnt.toNat

/-- Tick `n` is a poll that finds the line idle or the total timeout passed (R102). -/
def Decides (P : Config.Params) (L : Nat → Level) (s : State) (n : Nat) : Prop :=
  1 ≤ n ∧ (n - 1) % P.idlePollUs = 0 ∧ (IdleAt P L s n ∨ P.idleTotalUs ≤ n)

/-- A command in its IDLE phase drives nothing (R15, R102). -/
theorem InIdlePhase.drive_tick {op : Op} {k : Nat} {s : State} (h : InIdlePhase op k s) (P : Config.Params)
    (L : Level) : (tick P L s).drive = .released := by
  simp [driveLevel, h.phase]

section
variable {P : Config.Params} {L : Nat → Level} {s : State} {n : Nat}

/-- Until a poll decides, WAIT_IDLE stays in its IDLE phase with IDLE_TIMEOUT as it was (R102). -/
theorem inIdlePhase_of_undecided (h : InIdlePhase .waitIdle 0 s) {m : Nat} (undecided : ∀ i, i ≤ m → ¬ Decides P L s i) :
    InIdlePhase .waitIdle m (afterTicks P L m s) ∧ (afterTicks P L m s).idleTimeout = s.idleTimeout := by
  induction m with
  | zero => exact ⟨h, rfl⟩
  | succ m ih =>
    obtain ⟨before, flag⟩ := ih fun i hi => undecided i (by omega)
    have here := undecided (m + 1) le_rfl
    obtain ⟨next, kept, -⟩ | ⟨-, -, poll, ready⟩ | ⟨-, -, poll, -, total⟩ :=
      tick_in_idle_phase P (L (m + 1)) (.inl rfl) before
    · exact ⟨next, kept.trans flag⟩
    · exact absurd ⟨Nat.succ_pos m, poll, .inl ready⟩ here
    · exact absurd ⟨Nat.succ_pos m, poll, .inr total⟩ here

/-- WAIT_IDLE's IDLE phase ends at its first deciding poll, with IDLE_TIMEOUT set exactly if the line was not idle
(R102, R103). -/
theorem idle_phase_ends_at_decision (h : InIdlePhase .waitIdle 0 s) (noFlag : s.idleTimeout = false)
    (decided : Decides P L s n) (first : ∀ m, m < n → ¬ Decides P L s m) :
    IdlePhaseEnded .waitIdle (afterTicks P L n s) ∧
      ((afterTicks P L n s).idleTimeout = true ↔ ¬ IdleAt P L s n) := by
  obtain ⟨pos, poll, reason⟩ := decided
  obtain ⟨k, rfl⟩ : ∃ k, n = k + 1 := ⟨n - 1, by omega⟩
  obtain ⟨before, flag⟩ := inIdlePhase_of_undecided h fun i hi => first i (Nat.lt_succ_of_le hi)
  rw [noFlag] at flag
  obtain ⟨-, -, noPoll | ⟨notReady, early⟩⟩ | ⟨ended, kept, -, ready⟩ | ⟨ended, set, -, notReady, -⟩ :=
    tick_in_idle_phase P (L (k + 1)) (.inl rfl) before
  · exact absurd poll noPoll
  · obtain ready | total := reason
    · exact absurd ready notReady.not_ge
    · exact absurd total early.not_ge
  · refine ⟨ended, fun set => ?_, fun notReady => absurd ready notReady⟩
    exact absurd (set.symm.trans (kept.trans flag)) nofun
  · exact ⟨ended, fun _ => notReady.not_ge, fun _ => set⟩

/-- WAIT_IDLE finishes at its first deciding poll (R103). -/
theorem waitIdle_finishesAt (h : InIdlePhase .waitIdle 0 s) (noFlag : s.idleTimeout = false)
    (decided : Decides P L s n) (first : ∀ m, m < n → ¬ Decides P L s m) : FinishesAt P L s n := by
  obtain ⟨ended, -⟩ := idle_phase_ends_at_decision h noFlag decided first
  refine ⟨fun m hm => ?_, ?_, ended.done nofun⟩
  · exact (inIdlePhase_of_undecided h fun i hi => first i (hi.trans_lt hm)).1.busy
  · exact Bool.eq_false_iff.mpr fun running => absurd (ended.busy.mp running) nofun

end

/-- Settles O36: the phase runs undecided up to tick `n`, so every tick up to it drives R. -/
theorem waitIdleFinishesAtItsFirstDecidingPoll : Obligations.WaitIdleFinishesAtItsFirstDecidingPoll := by
  intro P L arg len s idle
  refine ⟨_, exec_waitIdle arg len idle, fun n decided first => ?_⟩
  have start := inIdlePhase_of_waitIdle arg len s
  refine ⟨waitIdle_finishesAt start rfl decided first, (idle_phase_ends_at_decision start rfl decided first).2,
    fun m pos hm => ?_⟩
  obtain ⟨j, rfl⟩ : ∃ j, m = j + 1 := ⟨m - 1, by omega⟩
  exact (inIdlePhase_of_undecided start fun i hi => first i (by omega)).1.drive_tick P (L (j + 1))

/-- `b · ⌈a/b⌉` is the first multiple of `b` that is no less than `a` (R8). -/
theorem mul_ceilDiv_le_iff {a b x : Nat} (hb : 0 < b) (hx : x % b = 0) : b * ceilDiv a b ≤ x ↔ a ≤ x := by
  obtain ⟨j, rfl⟩ := Nat.dvd_of_mod_eq_zero hx
  rw [Nat.mul_le_mul_left_iff hb]
  exact ceilDiv_le_iff_le_mul hb

/-- The first poll tick no earlier than tick `a` (R102, R103). -/
def firstPollFrom (P : Config.Params) (a : Nat) : Nat := 1 + P.idlePollUs * ceilDiv (a - 1) P.idlePollUs

/-- WAIT_IDLE first decides at the first poll tick from tick `a` on, if that is how its reasons to end depend on the
tick. -/
theorem firstPollFrom_decides {P : Config.Params} {L : Nat → Level} {s : State} {a : Nat}
    (reasons : ∀ m, 1 ≤ m → (IdleAt P L s m ∨ P.idleTotalUs ≤ m ↔ a ≤ m)) :
    Decides P L s (firstPollFrom P a) ∧ ∀ m, m < firstPollFrom P a → ¬ Decides P L s m := by
  have isPoll : (firstPollFrom P a - 1) % P.idlePollUs = 0 := by
    rw [firstPollFrom, Nat.add_sub_cancel_left, Nat.mul_mod_right]
  have atLeast := le_mul_ceilDiv (a - 1) P.idlePoll_pos
  have pos : 1 ≤ firstPollFrom P a := Nat.le_add_right 1 _
  refine ⟨⟨pos, isPoll, (reasons _ pos).mpr (by rw [firstPollFrom]; omega)⟩, fun m hm ⟨one, poll, reason⟩ => ?_⟩
  have late := (reasons m one).mp reason
  have first := (mul_ceilDiv_le_iff P.idlePoll_pos poll).mpr (by omega : a - 1 ≤ m - 1)
  rw [firstPollFrom] at hm
  omega

/-- Settles O39: the line is never idle, so only the total timeout can end the wait. -/
theorem waitIdleOnAnAssertedLineTimesOut : Obligations.WaitIdleOnAnAssertedLineTimesOut := by
  intro P L arg len s idle asserted
  have start := inIdlePhase_of_waitIdle arg len s
  refine ⟨_, exec_waitIdle arg len idle, ?_⟩
  have neverIdle : ∀ m, 1 ≤ m → ¬ IdleAt P L (startPhase .idle (latchCommand .waitIdle arg len s)) m := by
    intro m pos
    obtain ⟨j, rfl⟩ : ∃ j, m = j + 1 := ⟨m - 1, by omega⟩
    have ready := P.lineReady_ge
    simp only [IdleAt, afterTicks, asserted, tick_asserted_idleCnt, BitVec.toNat_zero]
    omega
  obtain ⟨decided, first⟩ := firstPollFrom_decides (a := P.idleTotalUs) fun m pos => or_iff_right (neverIdle m pos)
  exact ⟨waitIdle_finishesAt start rfl decided first,
    (idle_phase_ends_at_decision start rfl decided first).2.mpr (neverIdle _ decided.1)⟩

/-- Settles O40: the count is the tick's number, so the line is idle from tick LINE_READY_US on. -/
theorem waitIdleFromAZeroCountWaitsLineReady : Obligations.WaitIdleFromAZeroCountWaitsLineReady := by
  intro P L arg len s idle zero released early
  have start := inIdlePhase_of_waitIdle arg len s
  refine ⟨_, exec_waitIdle arg len idle, ?_⟩
  have idleFrom : ∀ m, IdleAt P L (startPhase .idle (latchCommand .waitIdle arg len s)) m ↔ P.lineReadyUs ≤ m := by
    intro m
    have cap := P.lineReady_lt
    have count := afterTicks_idleCnt_of_released (P := P) (L := L) (i := 0)
      (s := startPhase .idle (latchCommand .waitIdle arg len s)) zero m fun j _ _ => released j
    rw [Nat.zero_add] at count
    rw [IdleAt, count]
    omega
  obtain ⟨decided, first⟩ := firstPollFrom_decides (a := P.lineReadyUs) fun m _ => by rw [idleFrom]; omega
  have atLeast := le_mul_ceilDiv (P.lineReadyUs - 1) P.idlePoll_pos
  have isIdle := (idleFrom (firstPollFrom P P.lineReadyUs)).mpr (by rw [firstPollFrom]; omega)
  refine ⟨waitIdle_finishesAt start rfl decided first, Bool.eq_false_iff.mpr fun flag => ?_⟩
  exact (idle_phase_ends_at_decision start rfl decided first).2.mp flag isIdle

end Sys2Proof.Machine
end

section
/-! Waveforms as segments and as levels (42_bit_encoder.md R120). -/

namespace Sys2Proof.Machine

theorem flatten_byteSegs (x : Byte) : flatten (byteSegs x) = byteWave x := by
  simp only [byteSegs_eq_flatMap, flatten, List.flatMap_assoc, byteWave]
  exact List.flatMap_congr fun j _ => flatten_bitSegs _

theorem flatten_frameSegs (bytes : List Byte) : flatten (frameSegs bytes) = frameWave bytes := by
  rw [frameSegs, flatten_append, flatten_syncSegs, frameWave, flatten, List.flatMap_assoc]
  exact congrArg _ (List.flatMap_congr fun x _ => flatten_byteSegs x)

/-- Settles O41. -/
theorem segmentsAreTheWaveform : Obligations.SegmentsAreTheWaveform := by
  refine ⟨waveLength_eq_length_flatten, fun segs pos => ?_, flatten_byteSegs, flatten_frameSegs⟩
  rw [levelAt_eq_getElem?_flatten, List.getD_eq_getElem?_getD]

/-- Before the end of a waveform, its level is an entry of its flattened form. -/
theorem some_levelAt {segs : List Segment} {pos : Nat} (h : pos < waveLength segs) :
    some (levelAt segs pos) = (flatten segs)[pos]? := by
  rw [waveLength_eq_length_flatten] at h
  rw [levelAt_eq_getElem?_flatten, List.getElem?_eq_getElem h, Option.getD_some]

end Sys2Proof.Machine
end

section
/-! What a TX phase drives and what it leaves alone (42_bit_encoder.md R121, R126). -/

namespace Sys2Proof.Machine

/-- The flags of a command's result (R21, R207). -/
def resultFlags (s : State) : Bool × Bool × Bool := (s.rxTimeout, s.idleTimeout, s.padEarly)

theorem completePhase_resultFlags (s : State) : resultFlags (completePhase s) = resultFlags s := by
  obtain ⟨-, h⟩ | ⟨p, ps, -, h⟩ := completePhase_cases s <;> simp [h, resultFlags]

section
variable {P : Config.Params} {op : Op} {T n : Nat} {s : State}

/-- A TX tick before the last keeps the waveform and every result flag (R121). -/
theorem tick_keeps_wave (L : Level) (h : InTxPhase op T n s) (more : n + 1 < T) :
    (tick P L s).txWave = s.txWave ∧ resultFlags (tick P L s) = resultFlags s := by
  obtain ⟨busy, -, tx, -, rfl, rfl, -⟩ := h
  rw [tick_of_tx_phase P L busy tx]
  obtain ⟨-, step⟩ | ⟨last, -⟩ | ⟨last, -⟩ := txStep_cases P L (monitorLine L s)
  · rw [step]
    simp [resultFlags]
  all_goals
    rw [monitorLine_txPos, monitorLine_txWave] at last
    omega

/-- The last TX tick keeps every result flag too, but for SEND's, which may end early (R126, R142). -/
theorem tick_keeps_resultFlags (L : Level) (h : InTxPhase op T n s) (other : op ≠ .send) :
    resultFlags (tick P L s) = resultFlags s := by
  obtain ⟨busy, curOp, tx, -⟩ := h
  rw [tick_of_tx_phase P L busy tx]
  obtain ⟨-, step⟩ | ⟨-, send, -⟩ | ⟨-, -, step⟩ := txStep_cases P L (monitorLine L s)
  · rw [step]
    simp [resultFlags]
  · rw [monitorLine_curOp, curOp] at send
    exact absurd send other
  · rw [step]
    refine (completePhase_resultFlags _).trans ?_
    simp [resultFlags]

/-- Through its TX phase a command keeps its waveform and every result flag. -/
theorem tx_phase_keeps_wave (L : Nat → Level) (h : InTxPhase op T 0 s) (before : n < T) :
    (afterTicks P L n s).txWave = s.txWave ∧ resultFlags (afterTicks P L n s) = resultFlags s := by
  induction n with
  | zero => exact ⟨rfl, rfl⟩
  | succ n ih =>
    obtain ⟨wave, flags⟩ := ih (by omega)
    have here := (tx_phase_lasts P L (by omega) h).1 n (by omega)
    obtain ⟨wave', flags'⟩ := tick_keeps_wave (P := P) (L (n + 1)) here before
    exact ⟨wave'.trans wave, flags'.trans flags⟩

/-- Tick `n + 1` of a TX phase drives entry `n` of its waveform (R121). -/
theorem tx_phase_drives (L : Nat → Level) (h : InTxPhase op T 0 s) (before : n < T) :
    (afterTicks P L (n + 1) s).drive = levelAt s.txWave n := by
  have here := (tx_phase_lasts P L (by omega) h).1 n before
  rw [afterTicks, tick_drive, driveLevel, if_pos ⟨here.busy, here.phase⟩, txLevel, here.position,
    (tx_phase_keeps_wave L h before).1]

/-- A command that only sends keeps every result flag to its end (R126). -/
theorem tx_phase_keeps_resultFlags (L : Nat → Level) (h : InTxPhase op T 0 s) (pos : 0 < T) (other : op ≠ .send) :
    resultFlags (afterTicks P L T s) = resultFlags s := by
  obtain ⟨n, rfl⟩ : ∃ n, T = n + 1 := ⟨T - 1, by omega⟩
  have here := (tx_phase_lasts P L pos h).1 n n.lt_succ_self
  exact (tick_keeps_resultFlags _ here other).trans (tx_phase_keeps_wave L h n.lt_succ_self).2

end

/-- Acceptance of a command that only sends lays down its waveform and clears the result flags (R82, R85). -/
theorem accept_onlySends {op : Op} (hop : OnlySends op) (arg : BitVec 8) (len : BitVec 6) (s : State) :
    (accept op arg len s).txWave = waveSegs op arg len s.txbuf ∧
    resultFlags (accept op arg len s) = (false, false, false) := by
  obtain rfl | rfl | rfl := hop <;> exact ⟨rfl, rfl⟩

/-- A command that only sends: it finishes with its waveform, which it drives tick by tick, and sets no flag (R121,
R126). -/
structure SendsItsWave (P : Config.Params) (L : Nat → Level) (s t : State) (segs : List Segment) : Prop where
  finishes : FinishesAt P L t (waveLength segs)
  drives : ∀ i, i < waveLength segs → (afterTicks P L (i + 1) t).drive = levelAt segs i
  flags : (afterTicks P L (waveLength segs) t).rxTimeout = false ∧
    (afterTicks P L (waveLength segs) t).idleTimeout = false ∧ (afterTicks P L (waveLength segs) t).padEarly = false ∧
    (afterTicks P L (waveLength segs) t).errBusy = s.errBusy ∧
    (afterTicks P L (waveLength segs) t).errOp = s.errOp ∧ (afterTicks P L (waveLength segs) t).errLen = s.errLen

/-- Every accepted command that only sends does so. -/
theorem exec_onlySends (P : Config.Params) (L : Nat → Level) {i : Instr} {s : State} (idle : s.busy = false)
    (wf : i.wf = true) (hop : OnlySends i.op) :
    ∃ t, exec i s = .next t ∧ SendsItsWave P L s t (waveSegs i.op i.arg i.len s.txbuf) := by
  have command : i.op ≠ .nop ∧ i.op ≠ .send := by
    obtain h | h | h := hop <;> rw [h] <;> decide
  have start := inTxPhase_of_accept hop i.arg i.len s
  obtain ⟨wave, flags⟩ := accept_onlySends hop i.arg i.len s
  have bound := waveLength_eq_commandBound P s.txbuf hop
  have pos := commandBound_pos_of_onlySends P s.txbuf hop
  rw [← bound] at pos
  have kept := tx_phase_keeps_resultFlags (P := P) L start pos command.2
  rw [flags] at kept
  simp only [resultFlags, Prod.mk.injEq] at kept
  obtain ⟨rxTimeout, idleTimeout, padEarly⟩ := kept
  refine ⟨_, exec_of_wf idle wf command.1, ?_, fun n hn => ?_, ?_⟩
  · rw [bound]
    exact onlySends_finishesAt P L hop s
  · rw [tx_phase_drives L start hn, wave]
  · rw [afterTicks_errBusy, afterTicks_errOp, afterTicks_errLen]
    exact ⟨rxTimeout, idleTimeout, padEarly, errorFlag_accept .busy i.op i.arg i.len s,
      errorFlag_accept .op i.op i.arg i.len s, errorFlag_accept .len i.op i.arg i.len s⟩

/-- Settles O43: the sync's two segments, read tick by tick. -/
theorem txSyncDrivesTheSyncMark : Obligations.TxSyncDrivesTheSyncMark := by
  intro P L arg len s idle
  obtain ⟨t, accepted, finishes, drives, flags⟩ := exec_onlySends P L (i := .txSync arg len) idle rfl (.inl rfl)
  refine ⟨t, accepted, finishes, fun i pos hi => ?_, fun i hi le => ?_, flags⟩
  all_goals
    obtain ⟨j, rfl⟩ : ∃ j, i = j + 1 := ⟨i - 1, by omega⟩
    refine (drives j ?_).trans ?_
  · exact show j < 3000 by omega
  · exact if_pos (show j < 2400 by omega)
  · exact show j < 3000 by omega
  · exact (if_neg (show ¬ j < 2400 by omega)).trans (if_pos (show j - 2400 < 600 by omega))

/-- Settles O44: the waveform is the byte's. -/
theorem txByteDrivesTheByte : Obligations.TxByteDrivesTheByte := by
  intro P L arg len s idle
  obtain ⟨t, accepted, run⟩ := exec_onlySends P L (i := .txByte arg len) idle rfl (.inr (.inl rfl))
  have length : waveLength (byteSegs arg) = 9600 + 600 * popcount arg := by
    rw [waveLength_eq_length_flatten, length_flatten_byteSegs]
  have wave : waveSegs (Instr.txByte arg len).op (Instr.txByte arg len).arg (Instr.txByte arg len).len s.txbuf =
    byteSegs arg := rfl
  rw [wave] at run
  obtain ⟨finishes, drives, flags⟩ := run
  rw [← length]
  refine ⟨t, accepted, finishes, fun i hi => ?_, flags⟩
  rw [drives i hi, some_levelAt hi, flatten_byteSegs]

/-- Settles O45: the waveform is the frame's. -/
theorem txFrameDrivesTheFrame : Obligations.TxFrameDrivesTheFrame := by
  intro P L arg len s idle pos legal bytes
  have wf : (Instr.txFrame arg len).wf = true := (legalLen_txFrame len).mpr ⟨pos, legal⟩
  obtain ⟨t, accepted, run⟩ := exec_onlySends P L idle wf (.inr (.inr rfl))
  have wave : waveSegs (Instr.txFrame arg len).op (Instr.txFrame arg len).arg (Instr.txFrame arg len).len s.txbuf =
    frameSegs bytes := rfl
  rw [wave] at run
  obtain ⟨finishes, drives, flags⟩ := run
  rw [← waveLength_frameSegs]
  refine ⟨t, accepted, finishes, fun i hi => ?_, flags⟩
  rw [drives i hi, some_levelAt hi, flatten_frameSegs]

end Sys2Proof.Machine
end

section
/-! SEND from its TX phase to its end (43_command_transmitter.md R141–R144): the checkpoints after its frame, and the
first one that stops it. -/

namespace Sys2Proof.Machine

/-- What tick `T + k` of SEND, `k` ticks after the last of its frame, makes of `s`: the padding goes on, or a checkpoint
ends it at the word gap, or one ends it early on an asserted sample `l` (R142, R143). -/
def PadOutcome (P : Config.Params) (l : Level) (T k : Nat) (s t : State) : Prop :=
  (InPadPhase T k t ∧ t.padEarly = s.padEarly ∧
    (k % P.idlePollUs ≠ 0 ∨ (T + k < P.wordGapUs ∧ l = .released))) ∨
  (k % P.idlePollUs = 0 ∧ P.wordGapUs ≤ T + k ∧ Finished t ∧ t.padEarly = s.padEarly) ∨
  (k % P.idlePollUs = 0 ∧ T + k < P.wordGapUs ∧ l = .asserted ∧ Finished t ∧ t.padEarly = true)

/-- The checkpoint `k` ticks after the frame ends the padding (R142, R143). -/
def Stops (P : Config.Params) (L : Nat → Level) (T k : Nat) : Prop :=
  k % P.idlePollUs = 0 ∧ (P.wordGapUs ≤ T + k ∨ L (T + k) = .asserted)

section
variable (P : Config.Params) {T : Nat} {s : State}

/-- The frame's last tick is the first checkpoint (R142). -/
theorem padOutcome_of_last_tx (l : Level) {n : Nat} (h : InTxPhase .send T n s) (last : n + 1 = T) :
    PadOutcome P l T 0 s (tick P l s) := by
  subst last
  obtain ⟨elapsed, gap, early, pads⟩ := sendsLastTxTickIsTheFirstCheckpoint P l s h.busy h.curOp h.phase
    (h.phases.trans (if_pos rfl)) (by rw [h.position, h.length])
  rw [h.elapsed] at elapsed gap early pads
  obtain before | reached := Nat.lt_or_ge (n + 1) P.wordGapUs
  · cases l
    · obtain ⟨busy, done, -, flag⟩ := early before rfl
      exact .inr (.inr ⟨Nat.zero_mod _, before, rfl, ⟨busy, done⟩, flag⟩)
    · obtain ⟨busy, phase, phases, ticks, flag⟩ := pads before rfl
      exact .inl ⟨⟨busy, phase, phases, ticks, elapsed⟩, flag, .inr ⟨before, rfl⟩⟩
  · obtain ⟨busy, done, -, flag⟩ := gap reached
    exact .inr (.inl ⟨Nat.zero_mod _, reached, ⟨busy, done⟩, flag⟩)

@[simp] theorem completePhase_padEarly (s : State) : (completePhase s).padEarly = s.padEarly := by
  obtain ⟨-, h⟩ | ⟨p, ps, -, h⟩ := completePhase_cases s <;> simp [h]

/-- A PAD tick is a checkpoint or not (R143). -/
theorem padOutcome_of_pad (l : Level) {k : Nat} (h : InPadPhase T k s) :
    PadOutcome P l T (k + 1) s (tick P l s) := by
  obtain ⟨busy, pad, phases, rfl, elapsed⟩ := h
  have ticked : tick P l s = { padStep P l (monitorLine l s) with drive := .released } := by
    rw [tick_of_busy P l s busy]
    simp [phaseStep, pad]
  have finishes {t : State} (hp : t.phases = [.pad]) : Finished { completePhase t with drive := .released } := by
    rw [completePhase_of_last (by rw [hp]; rfl)]
    exact ⟨rfl, rfl⟩
  rw [ticked]
  have steps := padStep_cases P l (monitorLine l s)
  simp only [monitorLine_k, monitorLine_e, elapsed] at steps
  obtain ⟨step, goesOn⟩ | ⟨checkpoint, gap, step⟩ | ⟨checkpoint, before, asserted, step⟩ := steps <;> rw [step]
  · exact .inl ⟨⟨by simp [busy], by simp [pad], by simp [phases], rfl, rfl⟩, by simp, goesOn⟩
  · exact .inr (.inl ⟨checkpoint, gap, finishes (by simp [phases]), by simp⟩)
  · exact .inr (.inr ⟨checkpoint, before, asserted, finishes (by simp [phases]), by simp⟩)

/-- A checkpoint that does not stop SEND leaves it padding. -/
theorem inPadPhase_of_not_stops {L : Nat → Level} {k : Nat} {t : State}
    (h : PadOutcome P (L (T + k)) T k s t) (goesOn : ¬ Stops P L T k) :
    InPadPhase T k t ∧ t.padEarly = s.padEarly := by
  obtain ⟨pads, flag, -⟩ | ⟨checkpoint, gap, -⟩ | ⟨checkpoint, -, asserted, -⟩ := h
  · exact ⟨pads, flag⟩
  · exact absurd ⟨checkpoint, .inl gap⟩ goesOn
  · exact absurd ⟨checkpoint, .inr asserted⟩ goesOn

/-- SEND pads up to the first checkpoint that stops it (R143). -/
theorem padOutcome_until_stop (L : Nat → Level) (h : InTxPhase .send T 0 s) (pos : 0 < T) (k : Nat)
    (goesOn : ∀ j, j < k → ¬ Stops P L T j) :
    PadOutcome P (L (T + k)) T k s (afterTicks P L (T + k) s) := by
  induction k with
  | zero =>
    obtain ⟨n, rfl⟩ : ∃ n, T = n + 1 := ⟨T - 1, by omega⟩
    have last := padOutcome_of_last_tx P (L (n + 1)) ((tx_phase_lasts P L pos h).1 n n.lt_succ_self) rfl
    have flags := (tx_phase_keeps_wave (P := P) L h n.lt_succ_self).2
    simp only [resultFlags, Prod.mk.injEq] at flags
    obtain ⟨-, -, flag⟩ := flags
    rwa [PadOutcome, flag] at last
  | succ k ih =>
    obtain ⟨pads, flag⟩ :=
      inPadPhase_of_not_stops P (ih fun j hj => goesOn j (by omega)) (goesOn k k.lt_succ_self)
    have next := padOutcome_of_pad P (L (T + k + 1)) pads
    rwa [PadOutcome, flag] at next

end

section
variable {P : Config.Params} {L : Nat → Level} {T k : Nat} {s : State}

/-- After its frame SEND pads until the first checkpoint that stops it (R143). -/
theorem inPadPhase_before_stop (h : InTxPhase .send T 0 s) (pos : 0 < T) (first : ∀ j, j < k → ¬ Stops P L T j)
    {j : Nat} (before : j < k) : InPadPhase T j (afterTicks P L (T + j) s) :=
  (inPadPhase_of_not_stops P (padOutcome_until_stop P L h pos j fun i hi => first i (hi.trans before))
    (first j before)).1

/-- SEND runs before the first checkpoint that stops it. -/
theorem send_running_before_stop (h : InTxPhase .send T 0 s) (pos : 0 < T) (first : ∀ j, j < k → ¬ Stops P L T j)
    {m : Nat} (before : m < T + k) : (afterTicks P L m s).busy = true := by
  obtain early | ⟨j, rfl⟩ : m < T ∨ ∃ j, m = T + j := (Nat.lt_or_ge m T).imp_right Nat.exists_eq_add_of_le
  · exact ((tx_phase_lasts P L pos h).1 m early).busy
  · exact (inPadPhase_before_stop h pos first (by omega)).busy

/-- SEND finishes at the first checkpoint that stops it, with PAD_EARLY as it was if that is at the word gap, else set
(R142, R143, R144). -/
theorem send_finishes_at_stop (h : InTxPhase .send T 0 s) (pos : 0 < T) (stop : Stops P L T k)
    (first : ∀ j, j < k → ¬ Stops P L T j) :
    FinishesAt P L s (T + k) ∧ (P.wordGapUs ≤ T + k → (afterTicks P L (T + k) s).padEarly = s.padEarly) ∧
      (T + k < P.wordGapUs → (afterTicks P L (T + k) s).padEarly = true) := by
  have running : ∀ m, m < T + k → (afterTicks P L m s).busy = true := fun _ => send_running_before_stop h pos first
  obtain ⟨checkpoint, reason⟩ := stop
  obtain ⟨-, -, between | ⟨before, released⟩⟩ | ⟨-, gap, ⟨busy, done⟩, flag⟩ | ⟨-, before, -, ⟨busy, done⟩, flag⟩ :=
    padOutcome_until_stop P L h pos k first
  · exact absurd checkpoint between
  · obtain gap | asserted := reason
    · exact absurd gap before.not_ge
    · rw [released] at asserted
      cases asserted
  · exact ⟨⟨running, busy, done⟩, fun _ => flag, fun before => absurd gap before.not_ge⟩
  · exact ⟨⟨running, busy, done⟩, fun gap => absurd gap before.not_ge, fun _ => flag⟩

/-- The first checkpoint at or after the word gap (R143). -/
def gapCheckpoint (P : Config.Params) (T : Nat) : Nat := P.idlePollUs * ceilDiv (P.wordGapUs - T) P.idlePollUs

/-- It stops SEND whatever the line shows. -/
theorem stops_gapCheckpoint (P : Config.Params) (L : Nat → Level) (T : Nat) : Stops P L T (gapCheckpoint P T) := by
  have atLeast := le_mul_ceilDiv (P.wordGapUs - T) P.idlePoll_pos
  exact ⟨Nat.mul_mod_right _ _, .inl (by rw [gapCheckpoint]; omega)⟩

/-- The checkpoints before it are before the word gap. -/
theorem lt_wordGap_of_lt_gapCheckpoint (checkpoint : k % P.idlePollUs = 0) (before : k < gapCheckpoint P T) :
    T + k < P.wordGapUs := by
  have notYet := mt (mul_ceilDiv_le_iff P.idlePoll_pos checkpoint).mpr (not_le.mpr before)
  omega

/-- A SEND in its first TX tick (R140). -/
theorem inTxPhase_send (busy : s.busy = true) (send : s.curOp = .send) (tx : s.phase = .tx)
    (phases : s.phases = [.tx, .pad]) (start : s.txPos = 0) (elapsed : s.e = 0) :
    InTxPhase .send (waveLength s.txWave) 0 s := ⟨busy, send, tx, phases, rfl, start, elapsed⟩

end

/-- Settles O48: the first checkpoint that stops SEND is the one at the word gap. -/
theorem sendPadsToTheWordGap : Obligations.SendPadsToTheWordGap := by
  intro P L s busy send tx phases start elapsed pos tTx n released
  have sending := inTxPhase_send busy send tx phases start elapsed
  have last : n = tTx + gapCheckpoint P tTx := by
    simp only [n, gapCheckpoint]
    split_ifs with reached
    · rw [Nat.sub_eq_zero_of_le reached, ceilDiv, Nat.zero_add, Nat.div_eq_of_lt (by have := P.idlePoll_pos; omega)]
      rfl
    · rfl
  rw [last] at released ⊢
  have stop := stops_gapCheckpoint P L tTx
  have first : ∀ j, j < gapCheckpoint P tTx → ¬ Stops P L tTx j := by
    rintro j before ⟨checkpoint, gap | asserted⟩
    · exact absurd gap (lt_wordGap_of_lt_gapCheckpoint checkpoint before).not_ge
    · obtain ⟨i, rfl⟩ := Nat.dvd_of_mod_eq_zero checkpoint
      rw [Nat.mul_comm, released i (by rw [Nat.mul_comm]; omega)] at asserted
      cases asserted
  obtain ⟨finishes, flag, -⟩ := send_finishes_at_stop sending pos stop first
  refine ⟨finishes, flag ?_⟩
  have atLeast := le_mul_ceilDiv (P.wordGapUs - tTx) P.idlePoll_pos
  rw [gapCheckpoint]
  omega

/-- Settles O49: the first checkpoint that stops SEND is the one with traffic. -/
theorem sendPaddingStopsEarlyOnTraffic : Obligations.SendPaddingStopsEarlyOnTraffic := by
  intro P L s j busy send tx phases start elapsed pos tTx early asserted released
  have sending := inTxPhase_send busy send tx phases start elapsed
  have stop : Stops P L tTx (j * P.idlePollUs) := ⟨Nat.mul_mod_left _ _, .inr asserted⟩
  have first : ∀ i, i < j * P.idlePollUs → ¬ Stops P L tTx i := by
    rintro i before ⟨checkpoint, gap | traffic⟩
    · omega
    · obtain ⟨j', rfl⟩ := Nat.dvd_of_mod_eq_zero checkpoint
      rw [Nat.mul_comm] at before traffic
      rw [released j' (Nat.lt_of_mul_lt_mul_right before)] at traffic
      cases traffic
  obtain ⟨finishes, -, flag⟩ := send_finishes_at_stop sending pos stop first
  exact ⟨finishes, flag early⟩

end Sys2Proof.Machine
end

section
/-! A whole SEND (43_command_transmitter.md R140, R146): what it drives, phase by phase. -/

namespace Sys2Proof.Machine

/-- SEND's IDLE phase gives way to its TX phase (R83, R86). -/
theorem completePhase_of_send_idle {s : State} (phases : s.phases = phaseList .send) :
    completePhase s = startPhase .tx { s with phases := [.tx, .pad] } := by
  simp [completePhase, nextPhase, phases, phaseList]

/-- SEND's TX phase starts with the frame of the latched LEN (R85, R140). -/
theorem txWave_of_idle_ended {P : Config.Params} {L : Level} {k : Nat} {s : State} (h : InIdlePhase .send k s)
    (ended : IdlePhaseEnded .send (tick P L s)) :
    (tick P L s).txWave = frameSegs (frameBytes s.lenL s.txbuf) := by
  obtain ⟨busy, curOp, phases, idle, -⟩ := h
  have wave {t : State} (hp : t.phases = phaseList .send) (ho : t.curOp = .send) :
      (completePhase t).txWave = frameSegs (frameBytes t.lenL t.txbuf) := by
    simp [completePhase_of_send_idle hp, ho, waveSegs]
  have phase := ended.phase
  rw [tick_of_idle_phase P L busy idle] at phase ⊢
  obtain ⟨step, -⟩ | ⟨-, -, step⟩ | ⟨-, -, -, step⟩ := idleStep_cases P (monitorLine L s) <;> rw [step] at phase ⊢
  · simp [idle] at phase
  all_goals
    refine (wave (by simp [phases]) (by simp [curOp])).trans ?_
    simp

/-- A predicate that holds somewhere holds somewhere first. -/
theorem exists_first {p : Nat → Prop} {N : Nat} (h : p N) : ∃ k, k ≤ N ∧ p k ∧ ∀ j, j < k → ¬ p j := by
  classical
  exact ⟨Nat.find ⟨N, h⟩, Nat.find_min' _ h, Nat.find_spec ⟨N, h⟩, fun _ => Nat.find_min ⟨N, h⟩⟩

/-- The first checkpoint that stops SEND is the frame's last tick, or comes less than one poll interval after the word
gap (R144). -/
theorem exists_first_stop (P : Config.Params) (L : Nat → Level) (T : Nat) :
    ∃ k, Stops P L T k ∧ (∀ j, j < k → ¬ Stops P L T j) ∧ T + k ≤ max T (P.wordGapUs + P.idlePollUs - 1) := by
  obtain ⟨k, le, stop, first⟩ := exists_first (stops_gapCheckpoint P L T)
  refine ⟨k, stop, first, ?_⟩
  obtain before | reached := Nat.lt_or_ge T P.wordGapUs
  · have atMost := mul_ceilDiv_le (P.wordGapUs - T) P.idlePollUs
    rw [gapCheckpoint] at le
    omega
  · have atOnce : Stops P L T 0 := ⟨Nat.zero_mod _, .inl reached⟩
    obtain rfl : k = 0 := Nat.eq_zero_of_not_pos fun pos => first 0 pos atOnce
    exact le_max_left T _

/-- SEND in its PAD phase drives nothing (R15, R143). -/
theorem InPadPhase.drive_tick {T k : Nat} {s : State} (h : InPadPhase T k s) (P : Config.Params) (L : Level) :
    (tick P L s).drive = .released := by
  simp [driveLevel, h.phase]

/-- Settles O50: the IDLE phase by `idle_phase_ends`, then the frame and the padding up to the first stop. -/
theorem sendDrivesIdleThenTheFrameThenPadding : Obligations.SendDrivesIdleThenTheFrameThenPadding := by
  intro P L arg len s idle low high bytes tTx
  have wf : (Instr.send arg len).wf = true := (legalLen_send len).mpr ⟨low, high⟩
  refine ⟨accept .send arg len s, exec_of_wf idle wf nofun, ?_⟩
  have start : InIdlePhase .send 0 (accept .send arg len s) := ⟨rfl, rfl, rfl, rfl, rfl⟩
  obtain ⟨n, pos, bound, waiting, ended⟩ := idle_phase_ends P L (.inr rfl) start
  obtain ⟨sending, wave⟩ : InTxPhase .send tTx 0 (afterTicks P L n (accept .send arg len s)) ∧
      (afterTicks P L n (accept .send arg len s)).txWave = frameSegs bytes := by
    obtain ⟨k, rfl⟩ : ∃ k, n = k + 1 := ⟨n - 1, by omega⟩
    have tx := inTxPhase_of_idle_ended (waiting k k.lt_succ_self) ended
    have wave := txWave_of_idle_ended (waiting k k.lt_succ_self) ended
    rw [afterTicks_lenL, afterTicks_txbuf] at tx wave
    exact ⟨tx, wave⟩
  have tTxPos : 0 < tTx := frameTicks_pos bytes
  obtain ⟨k, stop, first, within⟩ := exists_first_stop P (fun i => L (n + i)) tTx
  obtain ⟨finishes, -⟩ := send_finishes_at_stop sending tTxPos stop first
  refine ⟨n, n + (tTx + k), pos, bound, by omega, by omega, finishes.after fun i hi => (waiting i hi).busy,
    fun i one hi => ?_, fun i hi => ?_, fun i low high => ?_⟩
  · obtain ⟨j, rfl⟩ : ∃ j, i = j + 1 := ⟨i - 1, by omega⟩
    exact (waiting j (by omega)).drive_tick P _
  · have here : i < waveLength (frameSegs bytes) := by rwa [waveLength_frameSegs]
    rw [Nat.add_assoc, Nat.add_comm 1, afterTicks_add, tx_phase_drives _ sending hi, wave, some_levelAt here,
      flatten_frameSegs]
  · obtain ⟨j, rfl⟩ : ∃ j, i = n + (tTx + j + 1) := ⟨i - n - tTx - 1, by omega⟩
    rw [afterTicks_add, afterTicks]
    exact (inPadPhase_before_stop sending tTxPos first (by omega)).drive_tick P _

end Sys2Proof.Machine
end

section
/-! One RX tick (44_frame_receiver.md R162–R169): the measurement, the window's timeout, the delivery and the end. -/

namespace Sys2Proof.Machine

/-- A pulse completes and is delivered, in a new window (R162, R168). -/
theorem rxMeasure_of_completed {s : State} (inPulse : s.rxSub = .inPulse) :
    rxMeasure .released s = deliverPulse s.rxWidth { s with rxSub := .waitEdge, rxE := s.rxE + 1, rxW := 0 } := by
  have width : pulseWidth .released s = some s.rxWidth := pulseWidth_eq_some.mpr ⟨inPulse, rfl, rfl⟩
  rw [rxMeasure_of_pulse width]
  simp [measurePulse, rxCounted, inPulse]

/-- RX_SUB after a sample that completes no pulse, before the window's timeout (R162). -/
def nextSub (L : Level) (sub : RxSub) : RxSub :=
  if L = .released then .waitEdge else if sub = .waitLow then .waitLow else .inPulse

/-- RX_WIDTH after a sample that completes no pulse (R162). -/
def nextWidth (L : Level) (sub : RxSub) (width : Nat) : Nat :=
  if L = .released ∨ sub = .waitLow then width else if sub = .waitEdge then 1 else width + 1

/-- `measure(L)` where no pulse completes, in its five cases (R162). -/
theorem measurePulse_of_not_completed {L : Level} {s : State} (h : ¬ (s.rxSub = .inPulse ∧ L = .released)) :
    measurePulse L s = { s with rxSub := nextSub L s.rxSub, rxWidth := nextWidth L s.rxSub s.rxWidth } := by
  cases s
  rename_i sub _ _ _ _ _ _
  cases sub <;> cases L
  case inPulse.released => exact absurd ⟨rfl, rfl⟩ h
  all_goals rfl

section
variable {L : Level} {s : State} (h : ¬ (s.rxSub = .inPulse ∧ L = .released))
include h

/-- A tick that completes no pulse counts and measures, and may time the window out (R163, R168). -/
theorem rxMeasure_of_not_completed : rxMeasure L s =
    if 55000 ≤ s.rxW + 1 then windowTimeout L (measurePulse L (rxCounted s)) else measurePulse L (rxCounted s) := by
  have noPulse : pulseWidth L s = none := by
    refine Option.eq_none_iff_forall_ne_some.mpr fun w hw => ?_
    obtain ⟨inPulse, released, -⟩ := pulseWidth_eq_some.mp hw
    exact h ⟨inPulse, released⟩
  rw [rxMeasure_of_no_pulse noPulse, measurePulse_of_not_completed (s := rxCounted s) h]
  rfl

theorem rxMeasure_in_window (inWindow : s.rxW + 1 < 55000) :
    rxMeasure L s = { s with
      rxE := s.rxE + 1, rxW := s.rxW + 1, rxSub := nextSub L s.rxSub
      rxWidth := nextWidth L s.rxSub s.rxWidth } := by
  rw [rxMeasure_of_not_completed h, if_neg (not_le.mpr inWindow), measurePulse_of_not_completed (s := rxCounted s) h]
  rfl

theorem rxMeasure_at_timeout (timeout : 55000 ≤ s.rxW + 1) :
    rxMeasure L s = { s with
      rxE := s.rxE + 1, rxW := 0, rxSub := restingSub L, rxWidth := nextWidth L s.rxSub s.rxWidth } := by
  rw [rxMeasure_of_not_completed h, if_pos timeout, measurePulse_of_not_completed (s := rxCounted s) h,
    windowTimeout_eq_resting]
  rfl

end

/-- The bit that a mark of width `w` means in Accumulate (R165). -/
theorem classify_eq_one_iff (w : Nat) : classify w = .one ↔ 1000 ≤ w ∧ w ≤ 1440 := by
  obtain ⟨-, one, -⟩ := classifierUsesTheToleranceWindows.2 w
  exact one

/-- The accumulator takes the bit at position 7 − i and keeps the others (R165). -/
theorem getLsbD_setAccBit (acc : Byte) (i : Nat) (b : Bool) {j : Nat} (hj : j < 8) :
    (setAccBit acc i b).getLsbD j = if j = 7 - i then b else acc.getLsbD j := by
  have mask : (1#8 <<< (7 - i)).getLsbD j = decide (7 - i = j) := by
    rw [← BitVec.twoPow_eq, BitVec.getLsbD_twoPow]
    simp
    omega
  cases b
  · simp only [setAccBit, Bool.false_eq_true, if_false, BitVec.getLsbD_and, BitVec.getLsbD_not, mask, hj,
      decide_true]
    by_cases here : j = 7 - i <;> simp [here, eq_comm]
  · simp only [setAccBit, if_true, BitVec.getLsbD_or, mask]
    by_cases here : j = 7 - i <;> simp [here, eq_comm]

section
variable {w : Nat} {s : State}

/-- In WaitSync a SYNC-class width starts the bytes (R164). -/
theorem deliverPulse_of_sync (wait : s.rxState = .waitSync) (sync : classify w = .sync) :
    deliverPulse w s = { recordPulse w s with rxState := .accumulate, rxBitIdx := 0#3, rxAcc := 0x00#8 } := by
  simp [deliverPulse, wait, deliverWaitSync, sync]

/-- In WaitSync any other width is only recorded (R164, R169). -/
theorem deliverPulse_of_not_sync (wait : s.rxState = .waitSync) (other : classify w ≠ .sync) :
    deliverPulse w s = recordPulse w s := by
  simp [deliverPulse, wait, deliverWaitSync, other]

/-- In Accumulate a width is a bit; here one of the first seven of a byte (R165). -/
theorem deliverPulse_of_bit (accumulate : s.rxState = .accumulate) (idx : s.rxBitIdx.toNat < 7) :
    deliverPulse w s = { recordPulse w s with
      rxAcc := setAccBit s.rxAcc s.rxBitIdx.toNat (classify w = .one), rxBitIdx := s.rxBitIdx + 1#3 } := by
  have more : ¬ s.rxBitIdx.toNat + 1 = 8 := by omega
  simp [deliverPulse, accumulate, deliverAccumulate, recordPulse, more]

/-- In Accumulate the eighth bit completes the byte (R165, R166). -/
theorem deliverPulse_of_last_bit (accumulate : s.rxState = .accumulate) (idx : s.rxBitIdx.toNat = 7) :
    deliverPulse w s = appendByte (setAccBit s.rxAcc 7 (classify w = .one)) (recordPulse w s) := by
  simp [deliverPulse, accumulate, deliverAccumulate, recordPulse, idx]

theorem toNat_add_one_of_lt {n : Nat} {x : BitVec n} (h : x.toNat + 1 < 2 ^ n) : (x + 1#n).toNat = x.toNat + 1 := by
  rw [BitVec.toNat_add, BitVec.toNat_ofNat, Nat.add_mod_mod, Nat.mod_eq_of_lt h]

/-- The next of a byte's first seven bits (R165). -/
theorem deliverPulse_bit (accumulate : s.rxState = .accumulate) (idx : s.rxBitIdx.toNat < 7) :
    (deliverPulse w s).rxState = .accumulate ∧ (deliverPulse w s).rxBitIdx.toNat = s.rxBitIdx.toNat + 1 ∧
    (deliverPulse w s).rxCount = s.rxCount ∧ (deliverPulse w s).rxbuf = s.rxbuf ∧
    ∀ j, j < 8 → (deliverPulse w s).rxAcc.getLsbD j =
      if j = 7 - s.rxBitIdx.toNat then decide (1000 ≤ w ∧ w ≤ 1440) else s.rxAcc.getLsbD j := by
  rw [deliverPulse_of_bit accumulate idx]
  refine ⟨accumulate, toNat_add_one_of_lt (by omega), rfl, rfl, fun j hj => ?_⟩
  simp only [getLsbD_setAccBit _ _ _ hj, classify_eq_one_iff]

/-- The byte is stored at RX_COUNT, and the last one ends the frame (R166). -/
theorem deliverPulse_last_bit (accumulate : s.rxState = .accumulate) (idx : s.rxBitIdx.toNat = 7)
    (room : s.rxCount.toNat < 16) :
    (deliverPulse w s).rxBitIdx = 0#3 ∧ (deliverPulse w s).rxAcc = 0x00#8 ∧
    (deliverPulse w s).rxCount.toNat = s.rxCount.toNat + 1 ∧
    ((deliverPulse w s).rxState = if s.rxCount.toNat + 1 = s.rxLen.toNat then .done else .accumulate) ∧
    (∀ i : Fin 16, i.val ≠ s.rxCount.toNat → (deliverPulse w s).rxbuf[i] = s.rxbuf[i]) ∧
    (∀ i : Fin 16, i.val = s.rxCount.toNat → ∀ j, j < 8 → ((deliverPulse w s).rxbuf[i]).getLsbD j =
      if j = 0 then decide (1000 ≤ w ∧ w ≤ 1440) else s.rxAcc.getLsbD j) := by
  have count : (s.rxCount + 1#5).toNat = s.rxCount.toNat + 1 := toNat_add_one_of_lt (by omega)
  rw [deliverPulse_of_last_bit accumulate idx]
  refine ⟨rfl, rfl, count, ?_, fun i hi => ?_, fun i hi j hj => ?_⟩
  · simp only [appendByte, recordPulse, BitVec.toNat_inj.symm, count, accumulate]
  · simp [appendByte, recordPulse, hi.symm]
  · have stored : (appendByte (setAccBit s.rxAcc 7 (classify w = .one)) (recordPulse w s)).rxbuf[i] =
        setAccBit s.rxAcc 7 (classify w = .one) := by
      simp [appendByte, recordPulse, hi]
    rw [stored]
    simp only [getLsbD_setAccBit _ _ _ hj, classify_eq_one_iff, Nat.sub_self]

end

/-- Settles O52: the end of a tick, its measurement by what the sample completes and the window allows, and a delivery
by RX_STATE and RX_BITIDX. -/
theorem rxTickMeasuresPulsesAndAssemblesBits : Obligations.RxTickMeasuresPulsesAndAssemblesBits := by
  refine ⟨fun P L s busy rx => ?_, fun L s inPulse released => ?_, fun L s h => rxMeasure_in_window h,
    fun L s h timeout => ?_, fun w s small => ⟨?_, fun wait sync => ?_, fun wait other => ?_,
      fun accumulate idx => deliverPulse_bit accumulate idx,
      fun accumulate idx room => deliverPulse_last_bit accumulate idx room⟩⟩
  · rw [tick_of_rx_phase P L busy rx, rxStep, rxEnd]
    simp only [apply_ite (fun t : State => { t with drive := Level.released })]
    rfl
  · rw [released]
    exact rxMeasure_of_completed inPulse
  · rw [rxMeasure_at_timeout h timeout]
    cases L <;> rfl
  · rw [deliverPulse_eq]
    exact ⟨by rw [BitVec.toNat_ofNat, Nat.mod_eq_of_lt small], rfl⟩
  · rw [deliverPulse_of_sync wait sync]
    exact ⟨rfl, rfl, rfl, rfl, rfl⟩
  · rw [deliverPulse_of_not_sync wait other]
    rfl

end Sys2Proof.Machine
end

section
/-! How RECEIVE ends (44_frame_receiver.md R160, R167): Done means as many bytes as LEN asks for, and only the overall
timeout ends it otherwise. -/

namespace Sys2Proof.Machine

/-- RECEIVE 0 begins Done, so its first tick finishes it, whatever the sample (R160, R167). -/
theorem tick_of_receive_zero (P : Config.Params) (l : Level) {s : State} (busy : s.busy = true) (rx : s.phase = .rx)
    (done : s.rxState = .done) (low : s.rxSub = .waitLow) :
    ∃ w, tick P l s = { finish { monitorLine l s with rxE := s.rxE + 1, rxSub := restingSub l, rxW := w } with
      drive := .released } := by
  obtain ⟨w, measured⟩ := rxMeasure_of_noPulseOn (l := l) (s := monitorLine l s) (by simpa [low] using noPulseOn_waitLow l)
  have stillDone : (rxMeasure l (monitorLine l s)).rxState = .done := by simp [measured, done]
  refine ⟨w, ?_⟩
  rw [tick_of_rx_phase P l busy rx, rxStep, rxEnd, if_pos stillDone, measured, monitorLine_rxE]

/-- Settles O53: acceptance clears the receiver, and the one tick keeps what it clears. -/
theorem receiveZeroFinishesAtOnce : Obligations.ReceiveZeroFinishesAtOnce := by
  intro P L arg s idle
  refine ⟨_, exec_receive (len := 0#6) arg idle (by decide), ?_⟩
  obtain ⟨w, ticked⟩ := tick_of_receive_zero P (L 1)
    (s := startPhase .rx (clearReceiver 0#6 (latchCommand .receive arg 0#6 s))) rfl rfl rfl rfl
  rw [FinishesAt, afterTicks, afterTicks, ticked]
  refine ⟨⟨fun m hm => ?_, rfl, rfl⟩, ?_⟩
  · rw [Nat.lt_one_iff.mp hm]
    rfl
  · simp

/-- RECEIVE of `len` bytes counts them, and is Done exactly when it has them all (R166). -/
structure CountsBytes (len : Nat) (s : State) : Prop where
  length : s.rxLen.toNat = len
  small : len ≤ 16
  le : s.rxCount.toNat ≤ len
  done : s.rxState = .done ↔ s.rxCount.toNat = len

/-- A delivered pulse keeps the count in step (R164–R166). -/
theorem CountsBytes.deliverPulse {len : Nat} {s : State} (h : CountsBytes len s) (w : Nat) :
    CountsBytes len (deliverPulse w s) := by
  obtain ⟨length, small, le, done⟩ := h
  have kept : (Machine.deliverPulse w s).rxLen = s.rxLen := by rw [deliverPulse_eq]
  cases state : s.rxState <;> simp only [state, reduceCtorEq, false_iff, true_iff] at done
  case waitSync =>
    by_cases sync : classify w = .sync
    · rw [deliverPulse_of_sync state sync]
      exact ⟨length, small, le, iff_of_false nofun done⟩
    · rw [deliverPulse_of_not_sync state sync]
      exact ⟨length, small, le, by simp [recordPulse, state, done]⟩
  case accumulate =>
    obtain idx | idx : s.rxBitIdx.toNat < 7 ∨ s.rxBitIdx.toNat = 7 := by omega
    · obtain ⟨state', -, count, -⟩ := deliverPulse_bit (w := w) state idx
      exact ⟨kept ▸ length, small, count ▸ le, by rw [state', count]; exact iff_of_false nofun done⟩
    · obtain ⟨-, -, count, state', -⟩ := deliverPulse_last_bit (w := w) state idx (by omega)
      refine ⟨kept ▸ length, small, by omega, ?_⟩
      rw [state', count, length]
      split_ifs with full <;> simp [full]
  case done =>
    have recorded : Machine.deliverPulse w s = recordPulse w s := by simp [Machine.deliverPulse, state]
    rw [recorded]
    exact ⟨length, small, le, iff_of_true state done⟩

/-- So does every tick's measurement. -/
theorem CountsBytes.rxMeasure {len : Nat} {s : State} (h : CountsBytes len s) (L : Level) :
    CountsBytes len (rxMeasure L s) := by
  obtain ⟨length, small, le, done⟩ := h
  obtain ⟨-, -, step⟩ | ⟨-, -, step⟩ | ⟨-, -, step⟩ := rxMeasure_cases L s <;> rw [step]
  · refine CountsBytes.deliverPulse ?_ _
    rw [measurePulse_eq]
    exact ⟨length, small, le, done⟩
  · rw [windowTimeout_eq, measurePulse_eq]
    exact ⟨length, small, le, done⟩
  · rw [measurePulse_eq]
    exact ⟨length, small, le, done⟩

/-- RECEIVE of `len` bytes, `n` ticks after its acceptance. -/
structure InReceive (len n : Nat) (s : State) : Prop where
  inRxPhase : InRxPhase n s
  counts : CountsBytes len s
  noTimeout : s.rxTimeout = false

/-- RECEIVE has ended at tick `n`, by Done or by the overall timeout (R167). -/
structure ReceiveEnded (len n : Nat) (s : State) : Prop where
  finished : Finished s
  counts : CountsBytes len s
  timeout_iff : s.rxTimeout = true ↔ s.rxState ≠ .done
  timeout_tick : s.rxTimeout = true → n = 60000

/-- RECEIVE ends by tick 60000 (R167). -/
theorem receive_endsByTick (P : Config.Params) (len : Nat) :
    EndsByTick P (InReceive len) (ReceiveEnded len) 60000 := by
  rintro n l s before ⟨rx, counts, noTimeout⟩
  obtain ⟨running, still, counted⟩ := rxMeasure_in_rx_phase l (n := n) (s := monitorLine l s)
    ⟨by simp [rx.busy], by simp [rx.phase], by simp [rx.elapsed]⟩
  have measured : CountsBytes len (Machine.rxMeasure l (monitorLine l s)) := by
    refine CountsBytes.rxMeasure ?_ l
    obtain ⟨length, small, le, done⟩ := counts
    exact ⟨by simpa, small, by simpa, by simpa⟩
  have flag : (Machine.rxMeasure l (monitorLine l s)).rxTimeout = false := by
    rw [rxMeasure_eq]
    simpa
  rw [tick_of_rx_phase P l rx.busy rx.phase, rxStep]
  obtain ⟨done, step⟩ | ⟨missing, late, step⟩ | ⟨-, early, step⟩ := rxEnd_cases (Machine.rxMeasure l (monitorLine l s)) <;>
    rw [step]
  · exact .inr ⟨⟨rfl, rfl⟩, { measured with }, by simp [flag, done], by simp [flag]⟩
  · exact .inr ⟨⟨rfl, rfl⟩, { measured with }, by simp [missing], fun _ => by omega⟩
  · exact .inl ⟨by omega, ⟨running, still, counted⟩, { measured with }, flag⟩

/-- RECEIVE starts with no byte, and is Done at once exactly when it asks for none (R82, R160). -/
theorem inReceive_of_receive (arg : BitVec 8) {len : BitVec 6} (s : State) (legal : len.toNat ≤ 16) :
    InReceive len.toNat 0 (startPhase .rx (clearReceiver len (latchCommand .receive arg len s))) := by
  refine ⟨⟨rfl, rfl, rfl⟩, ⟨toNat_setWidth_of_le legal, legal, Nat.zero_le _, ?_⟩, rfl⟩
  rw [startPhase_rxState, startPhase_rxCount, clearReceiver_rxState, clearReceiver_rxCount]
  by_cases zero : len = 0#6
  · simp [zero]
  · have pos : len.toNat ≠ 0 := fun h => zero (BitVec.eq_of_toNat_eq h)
    simpa [zero] using pos.symm

/-- An RX tick drives nothing (R15, R168). -/
theorem InRxPhase.drive_tick {n : Nat} {s : State} (h : InRxPhase n s) (P : Config.Params) (L : Level) :
    (tick P L s).drive = .released := by
  simp [driveLevel, h.phase]

/-- Settles O55: `receive_endsByTick` from acceptance; every tick up to the end is an RX tick. -/
theorem receiveEndsByDoneOrTimeout : Obligations.ReceiveEndsByDoneOrTimeout := by
  intro P L arg len s idle legal
  refine ⟨_, exec_receive arg idle legal, ?_⟩
  obtain ⟨n, pos, bound, before, ended⟩ :=
    (receive_endsByTick P len.toNat).exists_end (by decide) L (inReceive_of_receive arg s legal)
  refine ⟨n, pos, bound, ⟨fun m hm => (before m hm).inRxPhase.busy, ended.finished.busy, ended.finished.done⟩,
    ended.timeout_iff, ended.timeout_tick, ended.counts.done, fun i one hi => ?_⟩
  obtain ⟨j, rfl⟩ : ∃ j, i = j + 1 := ⟨i - 1, by omega⟩
  exact (before j (by omega)).inRxPhase.drive_tick P _

end Sys2Proof.Machine
end

section
/-! RECEIVE on a line of pulses (44_frame_receiver.md R162–R168): released and asserted stretches, the window's timeout,
and the delivery of a pulse at the sample after it. What the state machine makes of the pulses is left open here: a
predicate on its fields stands for what is known of them. -/

namespace Sys2Proof.Machine

/-- The fields of the receiver's state machine (R164–R166). -/
structure Decoder where
  rxState : RxState
  rxCount : BitVec 5
  rxBitIdx : BitVec 3
  rxAcc : Byte
  rxbuf : Vector Byte 16
  rxLen : BitVec 5

/-- The state machine's fields as they stand in `s`. -/
def State.decoder (s : State) : Decoder := ⟨s.rxState, s.rxCount, s.rxBitIdx, s.rxAcc, s.rxbuf, s.rxLen⟩

/-- Where `D` holds the frame is not complete. -/
def Unfinished (D : Decoder → Prop) : Prop := ∀ d, D d → d.rxState ≠ .done

/-- A delivered pulse of width `k` leads from `D` to `D'` (R164–R166). -/
def Delivers (D : Decoder → Prop) (k : Nat) (D' : Decoder → Prop) : Prop :=
  ∀ s : State, D s.decoder → D' (deliverPulse k s).decoder

/-- RECEIVE has run for `n` ticks, `w` of them in the current window, and measures in the sub-state `sub`. -/
structure Measuring (D : Decoder → Prop) (n : Nat) (sub : RxSub) (w : Nat) (s : State) : Prop where
  inRxPhase : InRxPhase n s
  sub : s.rxSub = sub
  window : s.rxW = w
  noTimeout : s.rxTimeout = false
  decoder : D s.decoder

/-- RECEIVE is in a pulse that has been asserted for `k` ticks. -/
structure InPulse (D : Decoder → Prop) (n k w : Nat) (s : State) : Prop where
  measuring : Measuring D n .inPulse w s
  width : s.rxWidth = k

section
variable {P : Config.Params} {D D' : Decoder → Prop} {n w k : Nat} {sub : RxSub} {l : Level} {s : State}

/-- RECEIVE goes on after a tick whose measurement leaves the frame unfinished before the overall timeout (R167). -/
theorem tick_of_unfinished (h : InRxPhase n s) (early : n + 1 < 60000)
    (unfinished : (rxMeasure l (monitorLine l s)).rxState ≠ .done) :
    tick P l s = { rxMeasure l (monitorLine l s) with drive := .released } := by
  obtain ⟨-, -, counted⟩ := rxMeasure_in_rx_phase l (n := n) (s := monitorLine l s)
    ⟨by simp [h.busy], by simp [h.phase], by simp [h.elapsed]⟩
  rw [tick_of_rx_phase P l h.busy h.phase, rxStep]
  obtain ⟨done, -⟩ | ⟨-, late, -⟩ | ⟨-, -, step⟩ := rxEnd_cases (rxMeasure l (monitorLine l s))
  · exact absurd done unfinished
  · omega
  · rw [step]

/-- A sample that completes no pulse, in the window. -/
theorem Measuring.tick_in_window (h : Measuring D n sub w s) (open_ : Unfinished D)
    (more : ¬ (sub = .inPulse ∧ l = .released)) (inWindow : w + 1 < 55000) (early : n + 1 < 60000) :
    Measuring D (n + 1) (nextSub l sub) (w + 1) (tick P l s) ∧
      (tick P l s).rxWidth = nextWidth l sub s.rxWidth := by
  obtain ⟨rx, rfl, rfl, noTimeout, decoder⟩ := h
  have measured := rxMeasure_in_window (L := l) (s := monitorLine l s) (by simpa using more) (by simpa using inWindow)
  have waits : s.rxState ≠ .done := open_ _ decoder
  rw [tick_of_unfinished rx early (by simpa [measured] using waits), measured]
  refine ⟨⟨⟨by simp [rx.busy], by simp [rx.phase], by simp [rx.elapsed]⟩, by simp, by simp, by simp [noTimeout], ?_⟩,
    by simp⟩
  simpa [State.decoder] using decoder

/-- An asserted sample at the window's timeout: a pulse in progress is abandoned (R163). -/
theorem Measuring.tick_at_timeout (h : Measuring D n sub w s) (open_ : Unfinished D) (timeout : 55000 ≤ w + 1)
    (early : n + 1 < 60000) : Measuring D (n + 1) .waitLow 0 (tick P .asserted s) := by
  obtain ⟨rx, rfl, rfl, noTimeout, decoder⟩ := h
  have measured := rxMeasure_at_timeout (L := .asserted) (s := monitorLine .asserted s) (by simp) (by simpa using timeout)
  have waits : s.rxState ≠ .done := open_ _ decoder
  rw [tick_of_unfinished rx early (by simpa [measured] using waits), measured]
  refine ⟨⟨by simp [rx.busy], by simp [rx.phase], by simp [rx.elapsed]⟩, rfl, rfl, by simp [noTimeout], ?_⟩
  simpa [State.decoder] using decoder

/-- The measurement of a released sample after a pulse delivers it, in a new window (R162, R168). -/
theorem InPulse.measure (h : InPulse D n k w s) (delivers : Delivers D k D') :
    Measuring D' (n + 1) .waitEdge 0 (rxMeasure .released (monitorLine .released s)) := by
  obtain ⟨⟨rx, sub, -, noTimeout, decoder⟩, rfl⟩ := h
  have measured := rxMeasure_of_completed (s := monitorLine .released s) (by simpa using sub)
  rw [monitorLine_rxWidth] at measured
  refine ⟨rxMeasure_in_rx_phase .released ⟨by simp [rx.busy], by simp [rx.phase], by simp [rx.elapsed]⟩, ?_, ?_, ?_, ?_⟩
  · rw [measured, deliverPulse_eq]
  · rw [measured, deliverPulse_eq]
  · rw [rxMeasure_eq]
    simpa using noTimeout
  · rw [measured]
    exact delivers _ decoder

/-- A delivered pulse that leaves the frame unfinished. -/
theorem InPulse.tick_unfinished (h : InPulse D n k w s) (delivers : Delivers D k D') (open_ : Unfinished D')
    (early : n + 1 < 60000) : Measuring D' (n + 1) .waitEdge 0 (tick P .released s) := by
  have measured := h.measure delivers
  rw [tick_of_unfinished h.measuring.inRxPhase early (open_ _ measured.decoder)]
  obtain ⟨⟨busy, phase, elapsed⟩, sub, window, noTimeout, decoder⟩ := measured
  exact ⟨⟨busy, phase, elapsed⟩, sub, window, noTimeout, decoder⟩

/-- A delivered pulse that completes the frame finishes RECEIVE, even at the overall timeout (R167). -/
theorem InPulse.tick_finishes (h : InPulse D n k w s) (delivers : Delivers D k D')
    (complete : ∀ d, D' d → d.rxState = .done) :
    Finished (tick P .released s) ∧ (tick P .released s).rxTimeout = false ∧ D' (tick P .released s).decoder := by
  have measured := h.measure delivers
  have done : (rxMeasure .released (monitorLine .released s)).rxState = .done := complete _ measured.decoder
  rw [tick_of_rx_phase P .released h.measuring.inRxPhase.busy h.measuring.inRxPhase.phase, rxStep, rxEnd, if_pos done]
  exact ⟨⟨rfl, rfl⟩, measured.noTimeout, measured.decoder⟩

end

/-- The line samples after tick `n` are those of the list. -/
def Shows (L : Nat → Level) (n : Nat) (samples : List Level) : Prop :=
  ∀ i, i < samples.length → some (L (n + i + 1)) = samples[i]?

theorem Shows.append {L : Nat → Level} {n : Nat} {as bs : List Level} (h : Shows L n (as ++ bs)) :
    Shows L n as ∧ Shows L (n + as.length) bs := by
  refine ⟨fun i hi => ?_, fun i hi => ?_⟩
  · rw [h i (by rw [List.length_append]; omega), List.getElem?_append_left hi]
  · rw [Nat.add_assoc n, h (as.length + i) (by rw [List.length_append]; omega),
      List.getElem?_append_right (Nat.le_add_right _ _), Nat.add_sub_cancel_left]

theorem Shows.replicate {L : Nat → Level} {n m : Nat} {l : Level} (h : Shows L n (List.replicate m l)) {i : Nat}
    (hi : i < m) : L (n + i + 1) = l := by
  have sample := h i (by simpa using hi)
  simpa [hi] using sample

section
variable {P : Config.Params} {L : Nat → Level} {D D' : Decoder → Prop} {n w g k : Nat} {sub : RxSub} {u : State}

/-- A released stretch after no pulse: RECEIVE waits for an edge from its first sample on (R162). -/
theorem Measuring.released (h : Measuring D n sub w (afterTicks P L n u)) (open_ : Unfinished D)
    (noPulse : sub ≠ .inPulse) (shows : Shows L n (List.replicate g .released)) (inWindow : w + g < 55000)
    (early : n + g < 60000) :
    Measuring D (n + g) (if g = 0 then sub else .waitEdge) (w + g) (afterTicks P L (n + g) u) := by
  induction g with
  | zero => exact h
  | succ g ih =>
    rw [List.replicate_succ'] at shows
    have before := ih shows.append.1 (by omega) (by omega)
    have sample := shows.append.2.replicate (m := 1) Nat.one_pos
    rw [List.length_replicate, Nat.add_zero] at sample
    have still : (if g = 0 then sub else .waitEdge) ≠ .inPulse := by
      split_ifs
      · exact noPulse
      · exact nofun
    have next := (before.tick_in_window (P := P) (l := .released) open_ (fun h => still h.1) (by omega) (by omega)).1
    rw [← Nat.add_assoc, afterTicks, sample]
    exact next

/-- An asserted stretch within the window: in WAIT_EDGE it is a pulse, in WAIT_LOW it is skipped (R162). -/
theorem Measuring.asserted (h : Measuring D n sub w (afterTicks P L n u)) (open_ : Unfinished D)
    (shows : Shows L n (List.replicate k .asserted)) (inWindow : w + k < 55000) (early : n + k < 60000) :
    ∃ sub', Measuring D (n + k) sub' (w + k) (afterTicks P L (n + k) u) ∧ (sub = .waitLow → sub' = .waitLow) ∧
      (sub = .waitEdge → (k = 0 ∧ sub' = .waitEdge) ∨
        (1 ≤ k ∧ sub' = .inPulse ∧ (afterTicks P L (n + k) u).rxWidth = k)) := by
  induction k with
  | zero => exact ⟨sub, h, id, fun edge => .inl ⟨rfl, edge⟩⟩
  | succ k ih =>
    rw [List.replicate_succ'] at shows
    obtain ⟨sub', before, skips, widens⟩ := ih shows.append.1 (by omega) (by omega)
    have sample := shows.append.2.replicate (m := 1) Nat.one_pos
    rw [List.length_replicate, Nat.add_zero] at sample
    obtain ⟨next, width⟩ := before.tick_in_window (P := P) (l := .asserted) open_ nofun (by omega) (by omega)
    rw [← Nat.add_assoc, afterTicks, sample]
    refine ⟨_, next, fun low => by simp [nextSub, skips low], fun edge => .inr ⟨Nat.succ_pos k, ?_⟩⟩
    rw [width]
    obtain ⟨rfl, rfl⟩ | ⟨-, rfl, counted⟩ := widens edge
    · exact ⟨rfl, rfl⟩
    · exact ⟨rfl, congrArg Nat.succ counted⟩

/-- A released stretch and then a pulse, both within the window. -/
theorem Measuring.gap_pulse (h : Measuring D n sub w (afterTicks P L n u)) (open_ : Unfinished D)
    (waits : sub = .waitEdge ∨ (sub = .waitLow ∧ 1 ≤ g)) (pulse : 1 ≤ k)
    (shows : Shows L n (List.replicate g .released ++ List.replicate k .asserted)) (inWindow : w + g + k < 55000)
    (early : n + g + k < 60000) : InPulse D (n + g + k) k (w + g + k) (afterTicks P L (n + g + k) u) := by
  have noPulse : sub ≠ .inPulse := by
    obtain rfl | ⟨rfl, -⟩ := waits <;> exact nofun
  have edge : (if g = 0 then sub else .waitEdge) = .waitEdge := by
    obtain rfl | ⟨-, pos⟩ := waits
    · exact ite_self _
    · exact if_neg (by omega)
  have released := h.released open_ noPulse shows.append.1 (by omega) (by omega)
  have pulseShows := shows.append.2
  rw [List.length_replicate] at pulseShows
  obtain ⟨sub', asserted, -, widens⟩ := released.asserted open_ pulseShows (by omega) (by omega)
  obtain ⟨none, -⟩ | ⟨-, rfl, width⟩ := widens edge
  · omega
  · exact ⟨asserted, width⟩

/-- The next gap delivers the pulse before it, and the next pulse begins (R162, R168). -/
theorem InPulse.next_pulse {k' : Nat} (h : InPulse D n k w (afterTicks P L n u)) (delivers : Delivers D k D')
    (open_ : Unfinished D') (gap : 1 ≤ g) (pulse : 1 ≤ k')
    (shows : Shows L n (List.replicate g .released ++ List.replicate k' .asserted)) (inWindow : g + k' ≤ 55000)
    (early : n + (g + k') < 60000) :
    InPulse D' (n + (g + k')) k' (g - 1 + k') (afterTicks P L (n + (g + k')) u) := by
  obtain ⟨g, rfl⟩ : ∃ m, g = m + 1 := ⟨g - 1, by omega⟩
  rw [List.replicate_succ, List.cons_append, ← List.singleton_append] at shows
  have sample := shows.append.1.replicate (m := 1) Nat.one_pos
  have delivered := h.tick_unfinished (P := P) delivers open_ (by omega)
  rw [← sample] at delivered
  have next := Measuring.gap_pulse (P := P) (L := L) (u := u) delivered open_ (.inl rfl) pulse shows.append.2
    (by omega) (by omega)
  have ticks : n + 1 + g + k' = n + (g + 1 + k') := by omega
  rwa [ticks, Nat.zero_add] at next

end

end Sys2Proof.Machine
end

section
/-! Whole frames (44_frame_receiver.md R164–R166, R170, R173): a prelude, pulses that are skipped, the sync, the data
pulses and the sample that ends the last one. -/

namespace Sys2Proof.Machine

section
variable {P : Config.Params} {L : Nat → Level} {D : Decoder → Prop} {g k rel low : Nat} {u : State}

/-- A pulse in progress at RECEIVE's first tick is skipped, whatever its width (R162). -/
theorem pulse_after_skipped (h : Measuring D 0 .waitLow 0 u) (open_ : Unfinished D) (gap : 1 ≤ g) (pulse : 1 ≤ k)
    (shows : Shows L 0 (List.replicate low .asserted ++ (List.replicate g .released ++ List.replicate k .asserted)))
    (inWindow : low + g + k < 55000) : ∃ w, InPulse D (low + g + k) k w (afterTicks P L (low + g + k) u) := by
  obtain ⟨sub, skipped, skips, -⟩ := Measuring.asserted (P := P) (L := L) (u := u) h open_ shows.append.1
    (by omega) (by omega)
  obtain rfl := skips rfl
  have gapShows := shows.append.2
  rw [List.length_replicate] at gapShows
  have next := skipped.gap_pulse open_ (.inr ⟨rfl, gap⟩) pulse gapShows (by omega) (by omega)
  rw [Nat.zero_add] at next
  exact ⟨_, next⟩

/-- A pulse that is asserted up to its window's timeout, or longer, is abandoned and its remainder skipped (R163). -/
theorem pulse_after_abandoned (h : Measuring D 0 .waitLow 0 u) (open_ : Unfinished D) (gap : 1 ≤ g) (pulse : 1 ≤ k)
    (shows : Shows L 0 (List.replicate rel .released ++ List.replicate low .asserted ++
      (List.replicate g .released ++ List.replicate k .asserted)))
    (starts : rel < 55000) (lasts : 55000 ≤ rel + low) (early : rel + low + g + k < 60000) :
    ∃ w, InPulse D (rel + low + g + k) k w (afterTicks P L (rel + low + g + k) u) := by
  obtain ⟨preludeShows, gapShows⟩ := shows.append
  obtain ⟨relShows, lowShows⟩ := preludeShows.append
  rw [List.length_append, List.length_replicate, List.length_replicate] at gapShows
  obtain ⟨b, rfl⟩ : ∃ b, low = (54999 - rel) + (1 + b) := ⟨rel + low - 55000, by omega⟩
  have timeoutTick : rel + (54999 - rel) = 54999 := by omega
  have preludeTicks : rel + (54999 - rel + (1 + b)) = 55000 + b := by omega
  rw [List.replicate_add, List.replicate_add, List.length_replicate, Nat.zero_add] at lowShows
  obtain ⟨beforeShows, lowShows⟩ := lowShows.append
  obtain ⟨timeoutShows, restShows⟩ := lowShows.append
  rw [List.length_replicate, timeoutTick] at timeoutShows restShows
  rw [Nat.zero_add, preludeTicks] at gapShows
  rw [preludeTicks]
  have released := Measuring.released (P := P) (L := L) (u := u) h open_ nofun relShows (by omega) (by omega)
  rw [Nat.zero_add] at released
  obtain ⟨sub, before, -⟩ := released.asserted open_ beforeShows (by omega) (by omega)
  rw [timeoutTick] at before
  have timedOut := before.tick_at_timeout (P := P) open_ (by omega) (by omega)
  rw [← timeoutShows.replicate Nat.one_pos] at timedOut
  obtain ⟨sub', skipped, skips, -⟩ := Measuring.asserted (P := P) (L := L) (u := u) timedOut open_
    restShows (by omega) (by omega)
  obtain rfl := skips rfl
  exact ⟨_, skipped.gap_pulse open_ (.inr ⟨rfl, gap⟩) pulse gapShows (by omega) (by omega)⟩

/-- The widths of pulses, each given by its gap and its width. -/
def widths (ps : List (Nat × Nat)) : List Nat := ps.map (·.2)

/-- Pulse after pulse: the gap of each delivers the one before. -/
theorem InPulse.pulses {D : Nat → Decoder → Prop} {n k w : Nat} (qs : List (Nat × Nat))
    (h : InPulse (D 0) n k w (afterTicks P L n u)) (open_ : ∀ i, i ≤ qs.length → Unfinished (D i))
    (delivers : ∀ i, i < qs.length → Delivers (D i) ((k :: widths qs).getD i 0) (D (i + 1)))
    (shows : Shows L n (pulseLine qs)) (inWindow : ∀ q ∈ qs, 1 ≤ q.1 ∧ 1 ≤ q.2 ∧ q.1 + q.2 ≤ 55000)
    (early : n + (pulseLine qs).length < 60000) :
    ∃ w', InPulse (D qs.length) (n + (pulseLine qs).length) ((k :: widths qs).getD qs.length 0) w'
      (afterTicks P L (n + (pulseLine qs).length) u) := by
  induction qs generalizing D n k w with
  | nil => exact ⟨w, h⟩
  | cons q qs ih =>
    obtain ⟨gap, pulse, short⟩ := inWindow q List.mem_cons_self
    have line : pulseLine (q :: qs) =
      (List.replicate q.1 .released ++ List.replicate q.2 .asserted) ++ pulseLine qs := rfl
    rw [line] at shows early ⊢
    rw [List.length_append, List.length_append, List.length_replicate, List.length_replicate] at early ⊢
    have first := h.next_pulse (delivers 0 (Nat.succ_pos _)) (open_ 1 (by simp)) gap pulse shows.append.1 short
      (by omega)
    have restShows := shows.append.2
    rw [List.length_append, List.length_replicate, List.length_replicate] at restShows
    have rest := ih (D := fun i => D (i + 1)) first (fun i hi => open_ (i + 1) (by simpa using hi))
      (fun i hi => delivers (i + 1) (by simpa using hi)) restShows (fun p hp => inWindow p (List.mem_cons_of_mem q hp))
      (by omega)
    rwa [← Nat.add_assoc]

end

end Sys2Proof.Machine
end

section
/-! What the state machine makes of a frame's pulses (44_frame_receiver.md R164–R166): it skips up to the sync, and then
has the frame's first `j` bits after `j` data pulses. -/

namespace Sys2Proof.Machine

/-- No sync has been seen by RECEIVE `len` (R164). -/
structure WaitsForSync (len : Nat) (d : Decoder) : Prop where
  state : d.rxState = .waitSync
  length : d.rxLen.toNat = len
  count : d.rxCount = 0#5

/-- The bit `j` of a frame's bytes, most significant bits first (R45, R165). -/
def frameBit (bytes : List Byte) (j : Nat) : Bool := (bytes.getD (j / 8) 0x00#8).getLsbD (7 - j % 8)

/-- RECEIVE `len` has taken the first `j` bits of the frame: whole bytes are in RXBUF, the rest in RX_ACC (R165, R166).
-/
structure HasBits (len : Nat) (bytes : List Byte) (j : Nat) (d : Decoder) : Prop where
  state : d.rxState = if j < 8 * len then .accumulate else .done
  length : d.rxLen.toNat = len
  count : d.rxCount.toNat = j / 8
  index : d.rxBitIdx.toNat = j % 8
  acc : ∀ b, b < j % 8 → d.rxAcc.getLsbD (7 - b) = (bytes.getD (j / 8) 0x00#8).getLsbD (7 - b)
  buf : ∀ i : Fin 16, i.val < j / 8 → d.rxbuf[i] = bytes.getD i 0x00#8

section
variable {len k : Nat} {bytes : List Byte}

/-- A width that is not a sync's has no effect before the sync (R164). -/
theorem delivers_skipped (other : k < 2000 ∨ 2880 < k) : Delivers (WaitsForSync len) k (WaitsForSync len) := by
  rintro s ⟨state, length, count⟩
  have notSync : classify k ≠ .sync := fun sync => by
    have := (classifierUsesTheToleranceWindows.2 k).1.mp sync
    omega
  rw [deliverPulse_of_not_sync state notSync]
  exact ⟨state, length, count⟩

/-- A sync starts the bytes (R164). -/
theorem delivers_sync (pos : 1 ≤ len) (low : 2000 ≤ k) (high : k ≤ 2880) :
    Delivers (WaitsForSync len) k (HasBits len bytes 0) := by
  rintro s ⟨state, length, count⟩
  rw [deliverPulse_of_sync state ((classifierUsesTheToleranceWindows.2 k).1.mpr ⟨low, high⟩)]
  exact ⟨(if_pos (by omega)).symm, length, congrArg BitVec.toNat count, rfl, fun b hb => absurd hb (by simp),
    fun i hi => absurd hi (by simp)⟩

/-- A data pulse is the next bit of the frame, and the last one completes it (R165, R166). -/
theorem delivers_bit {j : Nat} (small : len ≤ 16) (hj : j < 8 * len)
    (bit : (1000 ≤ k ∧ k ≤ 1440) ↔ frameBit bytes j = true) :
    Delivers (HasBits len bytes j) k (HasBits len bytes (j + 1)) := by
  intro s h
  have accumulate : s.rxState = .accumulate := h.state.trans (if_pos hj)
  have length : s.rxLen.toNat = len := h.length
  have count : s.rxCount.toNat = j / 8 := h.count
  have index : s.rxBitIdx.toNat = j % 8 := h.index
  have kept : (deliverPulse k s).rxLen.toNat = len := by
    rw [deliverPulse_eq]
    exact length
  have value : decide (1000 ≤ k ∧ k ≤ 1440) = frameBit bytes j := by
    rw [Bool.eq_iff_iff, decide_eq_true_iff]
    exact bit
  obtain inside | last : j % 8 < 7 ∨ j % 8 = 7 := by omega
  · obtain ⟨state', index', count', buf', acc'⟩ := deliverPulse_bit (w := k) accumulate (index.trans_lt inside)
    have sameByte : (j + 1) / 8 = j / 8 := by omega
    have nextBit : (j + 1) % 8 = j % 8 + 1 := by omega
    refine ⟨state'.trans (if_pos (by omega)).symm, kept, ?_, ?_, fun b hb => ?_, fun i hi => ?_⟩
    · rw [sameByte, ← count, ← count']
      rfl
    · rw [nextBit, ← index, ← index']
      rfl
    · rw [sameByte]
      refine (acc' (7 - b) (by omega)).trans ?_
      rw [index, value]
      obtain rfl | earlier : b = j % 8 ∨ b < j % 8 := by omega
      · exact if_pos rfl
      · exact (if_neg (by omega)).trans (h.acc b earlier)
    · rw [sameByte] at hi
      refine Eq.trans ?_ (h.buf i hi)
      exact congrArg (fun v : Vector Byte 16 => v[i]) buf'
  · obtain ⟨index', -, count', state', otherBytes, thisByte⟩ :=
      deliverPulse_last_bit (w := k) accumulate (index.trans last) (by omega)
    have nextByte : (j + 1) / 8 = j / 8 + 1 := by omega
    have firstBit : (j + 1) % 8 = 0 := by omega
    refine ⟨state'.trans ?_, kept, ?_, ?_, fun b hb => ?_, fun i hi => ?_⟩
    · rw [count, length]
      by_cases full : j / 8 + 1 = len
      · rw [if_pos full, if_neg (by omega)]
      · rw [if_neg full, if_pos (by omega)]
    · rw [nextByte, ← count, ← count']
      rfl
    · rw [firstBit]
      exact congrArg BitVec.toNat index'
    · omega
    · obtain here | before : i.val = s.rxCount.toNat ∨ i.val < j / 8 := by omega
      · apply BitVec.eq_of_getLsbD_eq
        intro b hb
        refine (thisByte i here b hb).trans ?_
        rw [here, count]
        by_cases low : b = 0
        · rw [if_pos low, value, frameBit, last, low]
        · have bits := h.acc (7 - b) (by omega)
          have position : 7 - (7 - b) = b := by omega
          rw [if_neg low]
          rwa [position] at bits
      · exact (otherBytes i (by omega)).trans (h.buf i before)

end

/-- The whole frame has been taken (R166). -/
theorem HasBits.complete {len : Nat} {bytes : List Byte} {d : Decoder} (h : HasBits len bytes (8 * len) d)
    (small : len ≤ 16) (length : bytes.length = len) :
    d.rxState = .done ∧ d.rxCount.toNat = len ∧ d.rxbuf.toList.take len = bytes := by
  have whole : 8 * len / 8 = len := Nat.mul_div_cancel_left len (by decide)
  refine ⟨h.state.trans (if_neg (lt_irrefl _)), h.count.trans whole, List.ext_getElem ?_ fun i hi _ => ?_⟩
  · simp [length, small]
  · have inside : i < len := by simp at hi; omega
    have byte := h.buf ⟨i, by omega⟩ (by rw [whole]; exact inside)
    simpa [length, inside] using byte

/-- What the state machine knows when it has taken `i` pulses: `skipped` ones, the sync and then data. -/
def frameStage (skipped len : Nat) (bytes : List Byte) (i : Nat) : Decoder → Prop :=
  if i ≤ skipped then WaitsForSync len else HasBits len bytes (i - skipped - 1)

/-- Until its last bit the frame is unfinished. -/
theorem unfinished_frameStage {skipped len : Nat} {bytes : List Byte} {i : Nat} (h : i < skipped + 1 + 8 * len) :
    Unfinished (frameStage skipped len bytes i) := by
  intro d hd
  unfold frameStage at hd
  split_ifs at hd
  · rw [hd.state]
    exact nofun
  · rw [hd.state, if_pos (by omega)]
    exact nofun

/-- Each pulse of a line that carries a frame leads from stage to stage: noise, a sync, and the frame's bits. -/
theorem delivers_frameStage {len : Nat} {bytes : List Byte} {noise ps : List (Nat × Nat)} {g0 w0 : Nat}
    (pos : 1 ≤ len) (small : len ≤ 16) (count : ps.length = 8 * len) (low : 2000 ≤ w0) (high : w0 ≤ 2880)
    (skip : ∀ p ∈ noise, p.2 < 2000 ∨ 2880 < p.2)
    (bits : ∀ j, j < ps.length →
      ((1000 ≤ (ps.getD j (0, 0)).2 ∧ (ps.getD j (0, 0)).2 ≤ 1440) ↔ frameBit bytes j = true))
    {i : Nat} (hi : i < noise.length + 1 + 8 * len) :
    Delivers (frameStage noise.length len bytes i) ((widths (noise ++ (g0, w0) :: ps)).getD i 0)
      (frameStage noise.length len bytes (i + 1)) := by
  have width : (widths (noise ++ (g0, w0) :: ps)).getD i 0 = ((noise ++ (g0, w0) :: ps).getD i (0, 0)).2 :=
    List.getD_map (noise ++ (g0, w0) :: ps) (0, 0) Prod.snd
  rw [width]
  obtain early | rfl | late := Nat.lt_trichotomy i noise.length
  · rw [frameStage, frameStage, if_pos early.le, if_pos (Nat.succ_le_of_lt early), List.getD_append _ _ _ _ early,
      List.getD_eq_getElem _ _ early]
    exact delivers_skipped (skip _ (List.getElem_mem early))
  · rw [frameStage, frameStage, if_pos le_rfl, if_neg (by omega), List.getD_append_right _ _ _ _ le_rfl, Nat.sub_self]
    have first : noise.length + 1 - noise.length - 1 = 0 := by omega
    rw [first]
    exact delivers_sync pos low high
  · obtain ⟨j, rfl⟩ : ∃ j, i = noise.length + (j + 1) := ⟨i - noise.length - 1, by omega⟩
    have before : noise.length + (j + 1) - noise.length - 1 = j := by omega
    have after : noise.length + (j + 1) + 1 - noise.length - 1 = j + 1 := by omega
    rw [frameStage, frameStage, if_neg (by omega), if_neg (by omega), before, after,
      List.getD_append_right _ _ _ _ (by omega), Nat.add_sub_cancel_left, List.getD_cons_succ]
    exact delivers_bit small (by omega) (bits j (by omega))

end Sys2Proof.Machine
end

section
/-! RECEIVE of a whole frame (44_frame_receiver.md R170, R173): from acceptance to the sample that ends its last mark. -/

namespace Sys2Proof.Machine

/-- A command that has finished stays so (R16). -/
theorem not_busy_afterTicks (P : Config.Params) (L : Nat → Level) {s : State} {m : Nat} (n : Nat)
    (h : (afterTicks P L m s).busy = false) : (afterTicks P L (m + n) s).busy = false := by
  induction n with
  | zero => exact h
  | succ n ih =>
    rw [← Nat.add_assoc, afterTicks, tick_of_not_busy P _ _ ih]
    exact (monitorLine_busy _ _).trans ih

/-- A command that runs after `n` ticks ran after fewer. -/
theorem busy_of_busy_later {P : Config.Params} {L : Nat → Level} {s : State} {m n : Nat} (le : m ≤ n)
    (h : (afterTicks P L n s).busy = true) : (afterTicks P L m s).busy = true := by
  obtain ⟨k, rfl⟩ := Nat.exists_eq_add_of_le le
  by_contra stopped
  have := not_busy_afterTicks P L k (Bool.eq_false_iff.mpr stopped)
  simp [this] at h

/-- RECEIVE begins waiting for a sync, with nothing to measure (R82, R160). -/
theorem measuring_of_receive (arg : BitVec 8) {len : BitVec 6} (s : State) (pos : 1 ≤ len.toNat)
    (legal : len.toNat ≤ 16) : Measuring (WaitsForSync len.toNat) 0 .waitLow 0
      (startPhase .rx (clearReceiver len (latchCommand .receive arg len s))) := by
  have nonzero : len ≠ 0#6 := by
    rintro rfl
    exact absurd pos (by decide)
  exact ⟨⟨rfl, rfl, rfl⟩, rfl, rfl, rfl, if_neg nonzero, toNat_setWidth_of_le legal, rfl⟩

/-- RECEIVE has finished with exactly the bytes of a frame (R167, R170). -/
structure ReceivedFrame (len : Nat) (bytes : List Byte) (s : State) : Prop where
  state : s.rxState = .done
  count : s.rxCount.toNat = len
  noTimeout : s.rxTimeout = false
  bytes : s.rxbuf.toList.take len = bytes

section
variable {P : Config.Params} {L : Nat → Level} {u : State}

/-- From the first pulse of a line that carries a frame to the released sample after its last mark. -/
theorem receives_frame_from_first_pulse {len : Nat} {bytes : List Byte} {noise ps qs : List (Nat × Nat)}
    {p : Nat × Nat} {g0 w0 n w : Nat}
    (pos : 1 ≤ len) (small : len ≤ 16) (length : bytes.length = len) (count : ps.length = 8 * len)
    (low : 2000 ≤ w0) (high : w0 ≤ 2880) (skip : ∀ p ∈ noise, p.2 < 2000 ∨ 2880 < p.2)
    (bits : ∀ j, j < ps.length →
      ((1000 ≤ (ps.getD j (0, 0)).2 ∧ (ps.getD j (0, 0)).2 ≤ 1440) ↔ frameBit bytes j = true))
    (pulses : noise ++ (g0, w0) :: ps = p :: qs) (inWindow : ∀ q ∈ qs, 1 ≤ q.1 ∧ 1 ≤ q.2 ∧ q.1 + q.2 ≤ 55000)
    (first : InPulse (WaitsForSync len) n p.2 w (afterTicks P L n u)) (shows : Shows L n (pulseLine qs))
    (early : n + (pulseLine qs).length < 60000) (last : L (n + (pulseLine qs).length + 1) = .released) :
    FinishesAt P L u (n + (pulseLine qs).length + 1) ∧
      ReceivedFrame len bytes (afterTicks P L (n + (pulseLine qs).length + 1) u) := by
  have total : qs.length = noise.length + 8 * len := by
    have := congrArg List.length pulses
    simp only [List.length_append, List.length_cons] at this
    omega
  have delivers (i : Nat) (hi : i < noise.length + 1 + 8 * len) := delivers_frameStage pos small count low high
    skip bits (g0 := g0) hi
  rw [pulses] at delivers
  have start : frameStage noise.length len bytes 0 = WaitsForSync len := if_pos (Nat.zero_le _)
  rw [← start] at first
  obtain ⟨w', pending⟩ := first.pulses qs (fun i hi => unfinished_frameStage (by omega))
    (fun i hi => delivers i (by omega)) shows inWindow early
  have finished : frameStage noise.length len bytes (qs.length + 1) = HasBits len bytes (8 * len) := by
    rw [frameStage, if_neg (by omega), total]
    congr 1
    omega
  obtain ⟨⟨busy, done⟩, noTimeout, frame⟩ := pending.tick_finishes (P := P) (delivers qs.length (by omega))
    (by rw [finished]; exact fun d h => (h.complete small length).1)
  rw [finished] at frame
  obtain ⟨state, received, buffer⟩ := frame.complete small length
  have ended : afterTicks P L (n + (pulseLine qs).length + 1) u =
      tick P .released (afterTicks P L (n + (pulseLine qs).length) u) := by rw [afterTicks, last]
  rw [FinishesAt, ended]
  exact ⟨⟨fun m hm => busy_of_busy_later (Nat.le_of_lt_succ hm) pending.measuring.inRxPhase.busy, busy, done⟩,
    state, received, noTimeout, buffer⟩

end

/-- Settles O57: the prelude leads to the first pulse, and from there on the line carries the frame. -/
theorem toleratedFramesAreDecoded : Obligations.ToleratedFramesAreDecoded := by
  intro Q LR argR len r rel low noise g0 w0 ps bytes idle pos legal length count w0low w0high skip pulses inWindow
    prelude bits samples early shows last
  refine ⟨_, exec_receive argR idle legal, ?_⟩
  have start := measuring_of_receive argR r pos legal
  have waits : Unfinished (WaitsForSync len.toNat) := fun d h => by
    rw [h.state]
    exact nofun
  obtain ⟨p, qs, split⟩ : ∃ p qs, pulses = p :: qs := by
    cases noise <;> exact ⟨_, _, rfl⟩
  rw [split] at inWindow prelude
  obtain ⟨gap, pulse, -⟩ := inWindow p List.mem_cons_self
  have line : samples = List.replicate rel .released ++ List.replicate low .asserted ++
      (List.replicate p.1 .released ++ List.replicate p.2 .asserted) ++ pulseLine qs := by
    simp only [samples, split, List.append_assoc]
    simp only [pulseLine, List.flatMap_cons, List.append_assoc]
  have ticks : samples.length = rel + low + p.1 + p.2 + (pulseLine qs).length := by
    simp only [line, List.length_append, List.length_replicate, Nat.add_assoc]
  have shown : Shows LR 0 samples := fun i hi => by rw [Nat.zero_add, shows i hi]
  rw [line] at shown
  obtain ⟨firstShows, restShows⟩ := shown.append
  rw [ticks] at early last ⊢
  obtain ⟨w, first⟩ : ∃ w, InPulse (WaitsForSync len.toNat) (rel + low + p.1 + p.2) p.2 w
      (afterTicks Q LR (rel + low + p.1 + p.2)
        (startPhase .rx (clearReceiver len (latchCommand .receive argR len r)))) := by
    obtain ⟨rfl, fits⟩ | ⟨starts, lasts⟩ := prelude
    · rw [Nat.zero_add]
      exact pulse_after_skipped start waits gap pulse firstShows fits
    · exact pulse_after_abandoned start waits gap pulse firstShows starts lasts (by omega)
  have rest : Shows LR (rel + low + p.1 + p.2) (pulseLine qs) := by
    simpa only [List.length_append, List.length_replicate, Nat.zero_add, ← Nat.add_assoc] using restShows
  obtain ⟨finishes, state, received, noTimeout, buffer⟩ := receives_frame_from_first_pulse pos legal length count w0low
    w0high skip bits split (fun q hq => inWindow q (List.mem_cons_of_mem p hq)) first rest (by omega) last
  exact ⟨finishes, state, received, noTimeout, buffer⟩

end Sys2Proof.Machine
end

section
/-! The round trip (44_frame_receiver.md R170): a transmitted frame is a line of pulses, with nominal widths. -/

namespace Sys2Proof.Machine

/-- Marks with their delimiters, the first after a gap `g`, are pulses with the delimiters as gaps, but for the last
delimiter (R9, R120). -/
theorem marks_as_pulses (g m : Nat) (ms : List Nat) :
    List.replicate g .released ++ (m :: ms).flatMap markWave =
      pulseLine ((g, m) :: ms.map fun n => (600, n)) ++ List.replicate 600 .released := by
  induction ms generalizing g m with
  | nil => rw [List.flatMap_singleton, markWave, List.map_nil, pulseLine, List.flatMap_singleton, List.append_assoc]
  | cons n ns ih =>
    have tail := ih 600 n
    rw [List.flatMap_cons, markWave, List.append_assoc, tail]
    simp only [pulseLine, List.map_cons, List.flatMap_cons, List.append_assoc]

/-- The mark widths of a frame's bits, in the order they are sent (R45, R120). -/
def dataMarks (bytes : List Byte) : List Nat :=
  (List.range (8 * bytes.length)).map fun j => if frameBit bytes j then 1200 else 600

/-- The bits of a frame's first byte come first, most significant first, and then those of the others. -/
theorem dataMarks_cons (x : Byte) (xs : List Byte) :
    dataMarks (x :: xs) = ((List.range 8).map fun j => if x.getLsbD (7 - j) then 1200 else 600) ++ dataMarks xs := by
  have split : 8 * (x :: xs).length = 8 + 8 * xs.length := by rw [List.length_cons]; omega
  rw [dataMarks, split, List.range_add, List.map_append, List.map_map]
  refine congrArg₂ _ (List.map_congr_left fun j hj => ?_) (List.map_congr_left fun j _ => ?_)
  · have inside : j < 8 := List.mem_range.mp hj
    simp [frameBit, Nat.div_eq_of_lt inside, Nat.mod_eq_of_lt inside]
  · simp [frameBit]

/-- A frame on the wire is the sync mark and its bits' marks (R120). -/
theorem frameWave_eq_marks (bytes : List Byte) : frameWave bytes = (2400 :: dataMarks bytes).flatMap markWave := by
  have data : bytes.flatMap byteWave = (dataMarks bytes).flatMap markWave := by
    induction bytes with
    | nil => rfl
    | cons x xs ih => rw [dataMarks_cons, List.flatMap_append, ← ih, List.flatMap_cons, List.flatMap_map]; rfl
  rw [frameWave, data, List.flatMap_cons]

theorem length_frameWave (bytes : List Byte) : (frameWave bytes).length = frameTicks bytes := by
  rw [← flatten_frameSegs, length_flatten_frameSegs]

/-- A frame as a receiver sees it after `d` released samples: each mark with the gap before it (R162, R170). -/
def framePulses (d : Nat) (bytes : List Byte) : List (Nat × Nat) := (d, 2400) :: (dataMarks bytes).map fun n => (600, n)

theorem frame_as_pulses (d : Nat) (bytes : List Byte) :
    List.replicate d .released ++ frameWave bytes =
      pulseLine (framePulses d bytes) ++ List.replicate 600 .released := by
  rw [frameWave_eq_marks, marks_as_pulses, framePulses]

/-- The last delimiter of a frame follows its last pulse. -/
theorem length_framePulses (d : Nat) (bytes : List Byte) :
    (pulseLine (framePulses d bytes)).length + 600 = d + frameTicks bytes := by
  have sizes := congrArg List.length (frame_as_pulses d bytes)
  rw [List.length_append, List.length_append, List.length_replicate, List.length_replicate, length_frameWave] at sizes
  exact sizes.symm

/-- A line that is released for `d` ticks and then carries what a transmitter drives shows the frame's pulses, and is
released after the last. -/
theorem shows_framePulses {L : Nat → Level} {drive : Nat → Level} {d : Nat} {bytes : List Byte}
    (released : ∀ i, 1 ≤ i → i ≤ d → L i = .released)
    (follows : ∀ i, 1 ≤ i → i ≤ frameTicks bytes → L (d + i) = drive i)
    (drives : ∀ i, i < frameTicks bytes → some (drive (i + 1)) = (frameWave bytes)[i]?) :
    Shows L 0 (pulseLine (framePulses d bytes)) ∧ L ((pulseLine (framePulses d bytes)).length + 1) = .released := by
  have shows : Shows L 0 (List.replicate d .released ++ frameWave bytes) := by
    intro i hi
    rw [List.length_append, List.length_replicate, length_frameWave] at hi
    rw [Nat.zero_add]
    obtain before | ⟨j, rfl⟩ : i < d ∨ ∃ j, i = d + j := (Nat.lt_or_ge i d).imp_right Nat.exists_eq_add_of_le
    · rw [List.getElem?_append_left (by rwa [List.length_replicate]), List.getElem?_replicate_of_lt before,
        released (i + 1) (Nat.succ_pos i) before]
    · have inFrame : j < frameTicks bytes := by omega
      rw [List.getElem?_append_right (by rw [List.length_replicate]; omega), List.length_replicate,
        Nat.add_sub_cancel_left, Nat.add_assoc, follows (j + 1) (Nat.succ_pos j) inFrame, drives j inFrame]
  rw [frame_as_pulses] at shows
  have last := shows.append.2.replicate (i := 0) (by decide)
  rw [Nat.zero_add] at last
  exact ⟨shows.append.1, last⟩

/-- Every data pulse is a ONE or a ZERO of nominal width, after a nominal delimiter. -/
theorem dataPulse (bytes : List Byte) {j : Nat} (h : j < 8 * bytes.length) :
    ((dataMarks bytes).map fun n => (600, n)).getD j (0, 0) = (600, if frameBit bytes j then 1200 else 600) := by
  rw [List.getD_eq_getElem _ _ (by simpa [dataMarks] using h)]
  simp [dataMarks]

/-- Settles O56: the released samples and the frame are pulses with nominal widths, which lie in their windows. -/
theorem receiveDecodesWhatTxFrameDrives : Obligations.ReceiveDecodesWhatTxFrameDrives := by
  intro P Q LS LR argS argR len s r d idleS idleR pos legal delay bytes last early
  obtain ⟨t, sent, -, drives, -⟩ := txFrameDrivesTheFrame P LS argS len s idleS pos (by omega)
  have accepted := exec_receive argR idleR legal
  refine ⟨t, _, sent, accepted, fun released follows => ?_⟩
  have length : bytes.length = len.toNat := by simp [bytes]; omega
  have atLeast : 12600 ≤ frameTicks bytes := by
    unfold frameTicks
    omega
  obtain ⟨shows, ends⟩ := shows_framePulses released follows drives
  have size := length_framePulses d bytes
  have ticks : (pulseLine (framePulses d bytes)).length + 1 = last := by omega
  have count : ((dataMarks bytes).map fun n => (600, n)).length = 8 * bytes.length := by simp [dataMarks]
  have samples (i : Nat) (hi : i < (pulseLine (framePulses d bytes)).length) :
      some (LR (i + 1)) = (pulseLine (framePulses d bytes))[i]? := by
    rw [← shows i hi, Nat.zero_add]
  have window : ∀ p ∈ framePulses d bytes, 1 ≤ p.1 ∧ 1 ≤ p.2 ∧ p.1 + p.2 ≤ 55000 := by
    intro p hp
    obtain rfl | ⟨m, hm, rfl⟩ := (List.mem_cons.mp hp).imp_right List.mem_map.mp
    · exact ⟨delay, Nat.succ_pos 2399, show d + 2400 ≤ 55000 by omega⟩
    · obtain ⟨j, -, rfl⟩ := List.mem_map.mp hm
      cases frameBit bytes j <;> decide
  have bits (j : Nat) (hj : j < ((dataMarks bytes).map fun n => (600, n)).length) :
      (1000 ≤ (((dataMarks bytes).map fun n => (600, n)).getD j (0, 0)).2 ∧
        (((dataMarks bytes).map fun n => (600, n)).getD j (0, 0)).2 ≤ 1440) ↔ frameBit bytes j = true := by
    rw [dataPulse bytes (count ▸ hj)]
    cases frameBit bytes j <;> decide
  obtain ⟨u, accepted', received⟩ := toleratedFramesAreDecoded Q LR argR len r 0 0 [] d 2400
    ((dataMarks bytes).map fun n => (600, n)) bytes idleR pos legal length (by rw [count, length]) (by decide)
    (by decide) nofun window (.inl ⟨rfl, show 0 + d + 2400 + 1 ≤ 55000 by omega⟩) bits (ticks.trans_le early) samples
    ends
  obtain rfl : _ = u := Host.Outcome.next.inj (accepted.symm.trans accepted')
  rw [← ticks]
  exact received

end Sys2Proof.Machine
end

section
/-! Facts that the invariant's clauses turn on: every waveform ends released and fits R30's range, and a counter that is
not at a poll or checkpoint has a remainder one more than before (41_line_monitor.md R102, 42_bit_encoder.md R120). -/

namespace Sys2Proof.Machine

/-- The waveform ends in a delimiter (R120). -/
def EndsReleased (segs : List Segment) : Prop := ∃ as n, segs = as ++ [⟨.released, n + 1⟩]

theorem EndsReleased.append_left (as : List Segment) {bs : List Segment} (h : EndsReleased bs) :
    EndsReleased (as ++ bs) := by
  obtain ⟨cs, n, rfl⟩ := h
  exact ⟨as ++ cs, n, (List.append_assoc as cs _).symm⟩

theorem endsReleased_mark (n : Nat) : EndsReleased [⟨.asserted, n⟩, ⟨.released, delimUs⟩] := ⟨[⟨.asserted, n⟩], 599, rfl⟩

theorem endsReleased_byteSegs (x : Byte) : EndsReleased (byteSegs x) := .append_left _ (endsReleased_mark _)

theorem endsReleased_frameSegs (bytes : List Byte) : EndsReleased (frameSegs bytes) := by
  have append {as : List Segment} (h : EndsReleased as) : EndsReleased (as ++ bytes.flatMap byteSegs) := by
    induction bytes generalizing as with
    | nil => rwa [List.flatMap_nil, List.append_nil]
    | cons x xs ih =>
      rw [List.flatMap_cons, ← List.append_assoc]
      exact ih (.append_left as (endsReleased_byteSegs x))
  exact append (endsReleased_mark _)

/-- The last tick of a waveform drives R. -/
theorem EndsReleased.levelAt_last {segs : List Segment} (h : EndsReleased segs) {pos : Nat}
    (last : pos + 1 = waveLength segs) : levelAt segs pos = .released := by
  obtain ⟨as, n, rfl⟩ := h
  have tail : flatten (as ++ [⟨.released, n + 1⟩]) = flatten as ++ List.replicate (n + 1) .released := by
    rw [flatten_append]
    exact congrArg _ (List.flatMap_singleton _ _)
  rw [waveLength_eq_length_flatten, tail, List.length_append, List.length_replicate] at last
  rw [levelAt_eq_getElem?_flatten, tail, List.getElem?_append_right (by omega),
    List.getElem?_replicate_of_lt (by omega)]
  rfl

/-- The commands that have a TX phase (R83). -/
def HasTxPhase (op : Op) : Prop := OnlySends op ∨ op = .send

section
variable {op : Op} (hop : HasTxPhase op) (arg : Byte) (len : BitVec 6) (txbuf : Vector Byte 32)
include hop

theorem endsReleased_waveSegs : EndsReleased (waveSegs op arg len txbuf) := by
  obtain (rfl | rfl | rfl) | rfl := hop
  · exact endsReleased_mark _
  · exact endsReleased_byteSegs arg
  · exact endsReleased_frameSegs _
  · exact endsReleased_frameSegs _

/-- The longest waveform is that of 32 bytes 0xFF (R30, R125). -/
theorem waveLength_waveSegs_le : waveLength (waveSegs op arg len txbuf) ≤ 463800 := by
  obtain ⟨-, -, -, -, byte, -, -, -, -, frame⟩ := waveformDurations
  rw [waveLength_eq_length_flatten]
  obtain (rfl | rfl | rfl) | rfl := hop
  · exact length_flatten_syncSegs.trans_le (by decide)
  · exact (byte arg).2.2.trans (by decide)
  · exact frame len txbuf
  · exact frame len txbuf

theorem waveLength_waveSegs_pos : 0 < waveLength (waveSegs op arg len txbuf) := by
  obtain ⟨as, n, wave⟩ := endsReleased_waveSegs hop arg len txbuf
  have last : (flatten [⟨.released, n + 1⟩]).length = n + 1 := (waveLength_eq_length_flatten _).symm
  rw [wave, waveLength_eq_length_flatten, flatten_append, List.length_append, last]
  exact Nat.succ_pos _

end

/-- Between multiples of `b` the remainder counts up. -/
theorem add_one_mod_of_ne_zero {a b : Nat} (hb : 0 < b) (h : (a + 1) % b ≠ 0) : (a + 1) % b = a % b + 1 := by
  have below := Nat.mod_lt a hb
  rw [← Nat.mod_add_mod] at h ⊢
  obtain inside | whole : a % b + 1 < b ∨ a % b + 1 = b := by omega
  · exact Nat.mod_eq_of_lt inside
  · rw [whole, Nat.mod_self] at h
    exact absurd rfl h

end Sys2Proof.Machine
end

section
/-! The invariant by what the block is doing: no command runs, or one runs in one of its four phases. -/

namespace Sys2Proof.Machine

/-- The pulse measurement's part of the invariant (R30, R162, R163). -/
structure Receiver.MeasureOk (r : Receiver) : Prop where
  pulse : r.rxSub = .inPulse → 1 ≤ r.rxWidth ∧ r.rxWidth ≤ r.rxW
  bounds : r.rxWidth ≤ 55000 ∧ r.rxW < 55000 ∧ r.rxE ≤ 60000

/-- The received data's part of the invariant (R28, R164, R166, R169). -/
structure Receiver.DataOk (r : Receiver) : Prop where
  count : r.rxCount.toNat ≤ r.rxLen.toNat ∧ r.rxLen.toNat ≤ 16
  wait : r.rxState = .waitSync → r.rxCount = 0#5 ∧ r.rxBitIdx = 0#3 ∧ r.rxAcc = 0x00#8
  tail : ∀ i : Fin 16, r.rxCount.toNat ≤ i.val → r.rxbuf[i] = 0x00#8
  last : (r.lastWidth = 0#16 ∧ r.lastClass = .none) ∨
    (1 ≤ r.lastWidth.toNat ∧ r.lastWidth.toNat ≤ 54999 ∧ r.lastClass = classify r.lastWidth.toNat)

/-- R30's bounds on TX_POS, k and E. -/
def TxBounds (P : Config.Params) (s : State) : Prop :=
  s.txPos ≤ 463800 ∧ s.k ≤ max P.idleTotalUs P.wordGapUs + P.idlePollUs - 1 ∧
    s.e ≤ max 463800 (P.wordGapUs + P.idlePollUs - 1)

/-- What holds whatever the block is doing. -/
structure Sound (P : Config.Params) (s : State) : Prop where
  presc_lt : s.presc < tickDiv P
  line_cnt : s.line = true → s.idleCnt = 0#32
  measureOk : s.receiver.MeasureOk
  dataOk : s.receiver.DataOk
  tx_bounds : TxBounds P s

/-- No command runs (R21, R87). -/
structure Inactive (s : State) : Prop where
  busy : s.busy = false
  curOp : s.curOp = .nop
  phase : s.phase = .none
  phases : s.phases = []
  drive : s.drive = .released
  results : s.rxTimeout = true ∨ s.padEarly = true → s.done = true

/-- `op` runs in phase `p`, with the phases `ps` to follow (R67, R82, R83). -/
structure Running (op : Op) (p : Phase) (ps : List Phase) (s : State) : Prop where
  busy : s.busy = true
  curOp : s.curOp = op
  phase : s.phase = p
  phases : s.phases = p :: ps
  suffix : p :: ps <:+ phaseList op
  legal : legalLen op s.lenL = true
  notDone : s.done = false
  noTimeout : s.rxTimeout = false
  noEarly : s.padEarly = false

/-- The counters of a phase that has begun and not ended (R102, R121, R143, R167). -/
def PhaseOk (P : Config.Params) (p : Phase) (s : State) : Prop :=
  match p with
  | .none => False
  | .idle => (s.k = 0 ∨ s.k < P.idleTotalUs + (s.k - 1) % P.idlePollUs) ∧ s.drive = .released
  | .tx => (s.txWave = waveSegs s.curOp s.argL s.lenL s.txbuf ∧ s.txPos < waveLength s.txWave ∧ s.e = s.txPos ∧
      s.k = 0) ∧ s.drive = if 0 < s.txPos then levelAt s.txWave (s.txPos - 1) else .released
  | .pad => (s.txWave = waveSegs s.curOp s.argL s.lenL s.txbuf ∧ s.txPos = waveLength s.txWave ∧
      s.e = s.txPos + s.k ∧ s.e < P.wordGapUs + s.k % P.idlePollUs) ∧ s.drive = .released
  | .rx => (s.rxE < 60000 ∧ s.rxLen = s.lenL.setWidth 5 ∧ (s.rxState = .done → s.rxE = 0 ∧ s.rxLen = 0#5) ∧
      (s.rxState ≠ .done → s.rxCount.toNat < s.rxLen.toNat)) ∧ s.drive = .released

/-- What the block is doing: nothing, or running a command in one of its phases. -/
def Activity (P : Config.Params) (s : State) : Prop :=
  Inactive s ∨ ∃ op p ps, Running op p ps s ∧ PhaseOk P p s

/-- Every running command is in one of these places of its phase list (R83). -/
theorem phase_cases {op : Op} {p : Phase} {ps : List Phase} (h : p :: ps <:+ phaseList op) :
    (p = .idle ∧ HasIdlePhase op ∧ p :: ps = phaseList op) ∨
    (p = .tx ∧ HasTxPhase op ∧ ps = if op = .send then [.pad] else []) ∨
    (p = .pad ∧ op = .send ∧ ps = []) ∨ (p = .rx ∧ op = .receive ∧ ps = []) := by
  cases op <;> simp only [phaseList, List.suffix_cons_iff, List.suffix_nil, reduceCtorEq, or_false,
    List.cons.injEq] at h
  case waitIdle => exact .inl ⟨h.1, .inl rfl, by rw [h.1, h.2, phaseList]⟩
  case txSync => exact .inr (.inl ⟨h.1, .inl (.inl rfl), h.2⟩)
  case txByte => exact .inr (.inl ⟨h.1, .inl (.inr (.inl rfl)), h.2⟩)
  case txFrame => exact .inr (.inl ⟨h.1, .inl (.inr (.inr rfl)), h.2⟩)
  case send =>
    obtain ⟨rfl, rfl⟩ | ⟨rfl, rfl⟩ | ⟨rfl, rfl⟩ := h
    · exact .inl ⟨rfl, .inr rfl, rfl⟩
    · exact .inr (.inl ⟨rfl, .inr rfl, rfl⟩)
    · exact .inr (.inr (.inl ⟨rfl, rfl, rfl⟩))
  case receive => exact .inr (.inr (.inr ⟨h.1, rfl, h.2⟩))

/-- The invariant's clauses, sorted by what the block is doing. -/
theorem inv_iff (P : Config.Params) (s : State) : s.Inv P ↔ Sound P s ∧ Activity P s := by
  constructor
  · intro h
    refine ⟨⟨h.presc_lt, h.line_cnt, ⟨h.rx_pulse, h.rx_bounds⟩, ⟨h.rx_count, h.rx_wait, h.rxbuf_tail, h.last_pulse⟩,
      h.tx_bounds⟩, ?_⟩
    have drive := h.drive_eq
    cases busy : s.busy
    · obtain ⟨curOp, phase, phases⟩ := h.idle_fields busy
      exact .inl ⟨busy, curOp, phase, phases, by simpa [phase] using drive, h.result_done⟩
    · obtain ⟨nonempty, suffix, head⟩ := h.busy_phases busy
      obtain ⟨p, ps, phases⟩ := List.exists_cons_of_ne_nil nonempty
      have phase : s.phase = p := by simpa [phases] using head.symm
      have notDone : s.done = false := Bool.eq_false_iff.mpr fun done => by simp [h.done_idle done] at busy
      have noResult : ¬ (s.rxTimeout = true ∨ s.padEarly = true) := fun set => by simp [h.result_done set] at notDone
      obtain ⟨noTimeout, noEarly⟩ := not_or.mp noResult
      rw [phases] at suffix
      refine .inr ⟨s.curOp, p, ps, ⟨busy, rfl, phase, phases, suffix, h.busy_legal busy, notDone,
        Bool.eq_false_iff.mpr noTimeout, Bool.eq_false_iff.mpr noEarly⟩, ?_⟩
      obtain ⟨rfl, -⟩ | ⟨rfl, -⟩ | ⟨rfl, -⟩ | ⟨rfl, -⟩ := phase_cases suffix
      · exact ⟨h.idle_k phase, by simpa [phase] using drive⟩
      · exact ⟨h.tx_wave phase, by simpa [phase] using drive⟩
      · exact ⟨h.pad_e phase, by simpa [phase] using drive⟩
      · exact ⟨h.rx_run phase, by simpa [phase] using drive⟩
  · rintro ⟨⟨presc_lt, line_cnt, ⟨pulse, bounds⟩, ⟨count, wait, tail, last⟩, tx_bounds⟩, activity⟩
    obtain ⟨busy, curOp, phase, phases, drive, results⟩ |
      ⟨op, p, ps, ⟨busy, rfl, rfl, phases, suffix, legal, notDone, noTimeout, noEarly⟩, phaseOk⟩ := activity
    · exact {
        presc_lt, line_cnt, rx_pulse := pulse, rx_bounds := bounds, rx_count := count, rx_wait := wait,
        rxbuf_tail := tail, last_pulse := last, tx_bounds
        idle_fields := fun _ => ⟨curOp, phase, phases⟩
        busy_phases := by simp [busy]
        busy_legal := by simp [busy]
        done_idle := fun _ => busy
        result_done := results
        idle_k := by simp [phase]
        tx_wave := by simp [phase]
        drive_eq := by simp [phase, drive]
        pad_e := by simp [phase]
        rx_run := by simp [phase] }
    · have inPhase {q : Phase} (h : s.phase = q) : PhaseOk P q s := h ▸ phaseOk
      exact {
        presc_lt, line_cnt, rx_pulse := pulse, rx_bounds := bounds, rx_count := count, rx_wait := wait,
        rxbuf_tail := tail, last_pulse := last, tx_bounds
        idle_fields := by simp [busy]
        busy_phases := fun _ => ⟨by simp [phases], phases ▸ suffix, by simp [phases]⟩
        busy_legal := fun _ => legal
        done_idle := by simp [notDone]
        result_done := by simp [noTimeout, noEarly]
        idle_k := fun h => (inPhase h).1
        tx_wave := fun h => (inPhase h).1
        drive_eq := by
          cases phase : s.phase
          case none => exact (inPhase phase).elim
          all_goals simpa using (inPhase phase).2
        pad_e := fun h => (inPhase h).1
        rx_run := fun h => (inPhase h).1 }

/-- Settles O13: the reset block is sound and runs nothing. -/
theorem resetStateSatisfiesTheInvariant : Obligations.ResetStateSatisfiesTheInvariant := by
  have ticks := two_le_tickDiv Config.params
  have dataOk : State.reset.receiver.DataOk :=
    ⟨⟨le_rfl, Nat.zero_le _⟩, fun _ => ⟨rfl, rfl, rfl⟩, fun i _ => Vector.getElem_replicate _, .inl ⟨rfl, rfl⟩⟩
  have measureOk : State.reset.receiver.MeasureOk := ⟨nofun, Nat.zero_le _, Nat.succ_pos _, Nat.zero_le _⟩
  exact (inv_iff _ _).mpr ⟨⟨Nat.zero_lt_of_lt ticks, fun _ => rfl, measureOk, dataOk, Nat.zero_le _, Nat.zero_le _,
    Nat.zero_le _⟩, .inl ⟨rfl, rfl, rfl, rfl, rfl, nofun⟩⟩

end Sys2Proof.Machine
end

section
/-! A tick keeps the invariant: each phase's step goes on in its phase, starts the next one or finishes, within R30's
bounds (10_state.md R16, R30, 40_command_interface.md R86, R87). -/

namespace Sys2Proof.Machine

theorem inactive_finish (s : State) : Inactive { finish s with drive := .released } :=
  ⟨rfl, rfl, rfl, rfl, rfl, fun _ => rfl⟩

section
variable {P : Config.Params} {op : Op} {p q : Phase} {ps : List Phase} {s : State}

/-- Completing the last phase leaves nothing running (R86, R87). -/
theorem Running.finishes (h : Running op p [] s) : Inactive { completePhase s with drive := .released } := by
  rw [completePhase_of_last (by rw [h.phases]; rfl)]
  exact inactive_finish s

/-- Completing another phase starts the next one, whatever is driven (R86). -/
theorem Running.next (h : Running op p (q :: ps) s) (d : Level) :
    completePhase s = startPhase q { s with phases := q :: ps } ∧
      Running op q ps { completePhase s with drive := d } := by
  have started : completePhase s = startPhase q { s with phases := q :: ps } := by
    simp [completePhase, nextPhase, h.phases]
  obtain ⟨busy, curOp, -, -, suffix, legal, notDone, noTimeout, noEarly⟩ := h
  refine ⟨started, ?_⟩
  rw [started]
  exact ⟨by simp [busy], by simp [curOp], by simp, by simp, (List.suffix_cons p _).trans suffix, by simp [legal],
    by simp [notDone], by simp [noTimeout], by simp [noEarly]⟩

/-- Starting a phase brings no counter out of its range (R30). -/
theorem TxBounds.startPhase (h : TxBounds P s) (q : Phase) : TxBounds P (startPhase q s) := by
  obtain ⟨position, ticks, elapsed⟩ := h
  cases q
  case tx => exact ⟨Nat.zero_le _, Nat.zero_le _, Nat.zero_le _⟩
  all_goals exact ⟨position, Nat.zero_le _, elapsed⟩

/-- Nor does completing one. -/
theorem TxBounds.completePhase (h : TxBounds P s) : TxBounds P (completePhase s) := by
  obtain ⟨-, w⟩ | ⟨q, qs, -, w⟩ := completePhase_cases s <;> rw [w]
  · exact h
  · exact TxBounds.startPhase (s := { s with phases := q :: qs }) h q

/-- The IDLE phase is followed by nothing, or by a SEND's frame. -/
theorem Running.completes_idle (h : Running op .idle ps s) : Activity P { completePhase s with drive := .released } := by
  obtain ⟨-, rfl | rfl, phases⟩ | ⟨idle, -⟩ | ⟨idle, -⟩ | ⟨idle, -⟩ := phase_cases h.suffix
  · cases phases
    exact .inl h.finishes
  · cases phases
    obtain ⟨started, running⟩ := h.next .released
    refine .inr ⟨_, _, _, running, ?_⟩
    rw [started]
    exact ⟨⟨rfl, waveLength_waveSegs_pos (.inr h.curOp) s.argL s.lenL s.txbuf, rfl, rfl⟩, rfl⟩
  all_goals cases idle

/-- An IDLE step (R102). -/
theorem idleStep_ok (run : Running op .idle ps s) (ok : PhaseOk P .idle s) (bounds : TxBounds P s) :
    Activity P { idleStep P s with drive := .released } ∧ TxBounds P (idleStep P s) := by
  obtain ⟨ticks, drive⟩ := ok
  obtain ⟨position, -, elapsed⟩ := bounds
  have total := P.idleTotal_pos
  have poll := P.idlePoll_pos
  have remainder := Nat.mod_lt (s.k - 1) poll
  have counted : TxBounds P { s with k := s.k + 1 } := ⟨position, show s.k + 1 ≤ _ by omega, elapsed⟩
  obtain ⟨step, goesOn⟩ | ⟨-, -, step⟩ | ⟨-, -, -, step⟩ := idleStep_cases P s <;> rw [step]
  · refine ⟨.inr ⟨op, .idle, ps, { run with }, .inr ?_, rfl⟩, counted⟩
    show s.k + 1 < P.idleTotalUs + s.k % P.idlePollUs
    obtain between | ⟨-, early⟩ := goesOn
    · obtain ⟨j, here⟩ : ∃ j, s.k = j + 1 := Nat.exists_eq_add_one_of_ne_zero fun zero => by simp [zero] at between
      rw [here] at ticks between ⊢
      rw [add_one_mod_of_ne_zero poll between]
      rw [Nat.add_sub_cancel] at ticks
      omega
    · omega
  · have completing : Running op .idle ps { s with k := s.k + 1 } := { run with }
    exact ⟨completing.completes_idle, counted.completePhase⟩
  · have completing : Running op .idle ps { s with k := s.k + 1, idleTimeout := true } := { run with }
    have counted' : TxBounds P { s with k := s.k + 1, idleTimeout := true } := counted
    exact ⟨completing.completes_idle, counted'.completePhase⟩

/-- A TX step, with the level that the tick drives (R121, R142). -/
theorem txStep_ok {L : Level} (run : Running op .tx ps s) (ok : PhaseOk P .tx s) (bounds : TxBounds P s) :
    Activity P { txStep P L s with drive := txLevel s } ∧ TxBounds P (txStep P L s) := by
  obtain ⟨⟨wave, inside, elapsed, ticks⟩, -⟩ := ok
  obtain ⟨sends, follows⟩ : HasTxPhase s.curOp ∧ ps = if s.curOp = .send then [.pad] else [] := by
    rw [run.curOp]
    obtain ⟨tx, -⟩ | ⟨-, sends, follows⟩ | ⟨tx, -⟩ | ⟨tx, -⟩ := phase_cases run.suffix
    · cases tx
    · exact ⟨sends, follows⟩
    · cases tx
    · cases tx
  have longest := waveLength_waveSegs_le sends s.argL s.lenL s.txbuf
  rw [← wave] at longest
  have counted : TxBounds P { s with txPos := s.txPos + 1, e := s.e + 1 } :=
    ⟨show s.txPos + 1 ≤ _ by omega, bounds.2.1, show s.e + 1 ≤ _ by omega⟩
  have running : Running op .tx ps { s with txPos := s.txPos + 1, e := s.e + 1 } := { run with }
  have lastLevel (last : s.txPos + 1 = waveLength s.txWave) : txLevel s = .released := by
    rw [txLevel]
    rw [wave] at last ⊢
    exact (endsReleased_waveSegs sends _ _ _).levelAt_last last
  obtain ⟨more, step⟩ | ⟨last, send, step⟩ | ⟨last, other, step⟩ := txStep_cases P L s <;> rw [step]
  · refine ⟨.inr ⟨op, .tx, ps, { running with }, ⟨wave, ?_, ?_, ticks⟩, ?_⟩, counted⟩
    · show s.txPos + 1 < waveLength s.txWave
      omega
    · exact congrArg Nat.succ elapsed
    · exact (if_pos (Nat.succ_pos _)).symm
  · rw [lastLevel last]
    rw [send, if_pos rfl] at follows
    subst follows
    obtain ⟨-, e⟩ | ⟨-, -, e⟩ | ⟨early, -, e⟩ := sendTxEnd_cases P L { s with txPos := s.txPos + 1, e := s.e + 1 } <;>
      rw [e]
    · exact ⟨.inl (inactive_finish _), counted⟩
    · exact ⟨.inl (inactive_finish _), counted⟩
    · obtain ⟨started, padding⟩ := running.next .released
      refine ⟨.inr ⟨op, .pad, [], padding, ?_⟩, counted.completePhase⟩
      rw [started]
      exact ⟨⟨wave, last, congrArg Nat.succ elapsed, Nat.lt_add_right _ early⟩, rfl⟩
  · rw [lastLevel last]
    rw [if_neg other] at follows
    subst follows
    exact ⟨.inl running.finishes, counted.completePhase⟩

/-- A PAD step (R143). -/
theorem padStep_ok {L : Level} (run : Running op .pad ps s) (ok : PhaseOk P .pad s) (bounds : TxBounds P s) :
    Activity P { padStep P L s with drive := .released } ∧ TxBounds P (padStep P L s) := by
  obtain ⟨⟨wave, whole, elapsed, inTime⟩, -⟩ := ok
  obtain ⟨position, -, -⟩ := bounds
  obtain rfl : ps = [] := by
    obtain ⟨pad, -⟩ | ⟨pad, -⟩ | ⟨-, -, last⟩ | ⟨pad, -⟩ := phase_cases run.suffix
    · cases pad
    · cases pad
    · exact last
    · cases pad
  have poll := P.idlePoll_pos
  have remainder := Nat.mod_lt s.k poll
  have counted : TxBounds P { s with k := s.k + 1, e := s.e + 1 } :=
    ⟨position, show s.k + 1 ≤ _ by omega, show s.e + 1 ≤ _ by omega⟩
  obtain ⟨step, goesOn⟩ | ⟨-, -, step⟩ | ⟨-, -, -, step⟩ := padStep_cases P L s <;> rw [step]
  · refine ⟨.inr ⟨op, .pad, [], { run with }, ⟨wave, whole, ?_, ?_⟩, rfl⟩, counted⟩
    · exact congrArg Nat.succ elapsed
    · show s.e + 1 < P.wordGapUs + (s.k + 1) % P.idlePollUs
      obtain between | ⟨early, -⟩ := goesOn
      · rw [add_one_mod_of_ne_zero poll between]
        omega
      · omega
  · have completing : Running op .pad [] { s with k := s.k + 1, e := s.e + 1 } := { run with }
    exact ⟨.inl completing.finishes, counted.completePhase⟩
  · rw [completePhase_of_last (by rw [run.phases]; rfl)]
    exact ⟨.inl (inactive_finish _), counted⟩

end

end Sys2Proof.Machine
end

section
/-! An RX tick keeps the invariant: the measured width stays inside its window, and the received bytes inside RXBUF
(44_frame_receiver.md R162–R169). -/

namespace Sys2Proof.Machine

section
variable {L : Level} {s : State}

/-- The new width counts the pulse's ticks of this window, whichever case of the measurement applies (R162). -/
theorem nextWidth_bounds (h : s.receiver.MeasureOk) :
    nextWidth L s.rxSub s.rxWidth ≤ 55000 ∧
      (nextSub L s.rxSub = .inPulse →
        1 ≤ nextWidth L s.rxSub s.rxWidth ∧ nextWidth L s.rxSub s.rxWidth ≤ s.rxW + 1) := by
  have pulse : s.rxSub = .inPulse → 1 ≤ s.rxWidth ∧ s.rxWidth ≤ s.rxW := h.pulse
  have window : s.rxWidth ≤ 55000 ∧ s.rxW < 55000 ∧ s.rxE ≤ 60000 := h.bounds
  cases L
  case released => simpa [nextWidth, nextSub] using window.1
  case asserted =>
    cases sub : s.rxSub <;> simp [nextWidth, nextSub, sub] at pulse ⊢ <;> omega

theorem restingSub_ne_inPulse (L : Level) : restingSub L ≠ .inPulse := by cases L <;> nofun

/-- Whatever is delivered keeps the measurement as it stands. -/
theorem Receiver.MeasureOk.deliverPulse (h : s.receiver.MeasureOk) (w : Nat) :
    (deliverPulse w s).receiver.MeasureOk := by
  rw [deliverPulse_eq]
  exact { h with }

/-- The measurement's bounds hold at every tick up to the overall timeout's (R162, R163, R167). -/
theorem Receiver.MeasureOk.rxMeasure (h : s.receiver.MeasureOk) (early : s.rxE < 60000) :
    (rxMeasure L s).receiver.MeasureOk := by
  have window : s.rxWidth ≤ 55000 ∧ s.rxW < 55000 ∧ s.rxE ≤ 60000 := h.bounds
  obtain ⟨width, pulse⟩ := nextWidth_bounds (L := L) h
  by_cases completed : s.rxSub = .inPulse ∧ L = .released
  · obtain ⟨inPulse, rfl⟩ := completed
    rw [rxMeasure_of_completed inPulse]
    refine MeasureOk.deliverPulse (s := { s with rxSub := .waitEdge, rxE := s.rxE + 1, rxW := 0 }) ?_ _
    exact ⟨nofun, window.1, Nat.succ_pos _, early⟩
  obtain inside | timeout := lt_or_ge (s.rxW + 1) 55000
  · rw [rxMeasure_in_window completed inside]
    exact ⟨pulse, width, inside, early⟩
  · rw [rxMeasure_at_timeout completed timeout]
    exact ⟨fun inPulse => absurd inPulse (restingSub_ne_inPulse L), width, Nat.succ_pos _, early⟩

/-- A delivered pulse leaves RX_LEN alone and writes RXPULSE (R169). -/
theorem deliverPulse_recorded (s : State) {w : Nat} (small : w < 2 ^ 16) :
    (deliverPulse w s).rxLen = s.rxLen ∧ (deliverPulse w s).lastWidth.toNat = w ∧
      (deliverPulse w s).lastClass = classify w := by
  rw [deliverPulse_eq]
  exact ⟨rfl, by rw [BitVec.toNat_ofNat, Nat.mod_eq_of_lt small], rfl⟩

/-- While WaitSync waits no byte has begun, and RXBUF is zero beyond the bytes received, after a delivery as before it
(R164–R166). -/
theorem Receiver.DataOk.wait_tail_deliverPulse {len : Nat} (h : s.receiver.DataOk) (counts : CountsBytes len s)
    (w : Nat) : ((deliverPulse w s).rxState = .waitSync →
      (deliverPulse w s).rxCount = 0#5 ∧ (deliverPulse w s).rxBitIdx = 0#3 ∧ (deliverPulse w s).rxAcc = 0x00#8) ∧
    ∀ i : Fin 16, (deliverPulse w s).rxCount.toNat ≤ i.val → (deliverPulse w s).rxbuf[i] = 0x00#8 := by
  obtain ⟨-, wait, tail, -⟩ := h
  obtain ⟨-, few, fits, full⟩ := counts
  cases state : s.rxState
  case waitSync =>
    by_cases sync : classify w = .sync
    · rw [deliverPulse_of_sync state sync]
      exact ⟨nofun, tail⟩
    · rw [deliverPulse_of_not_sync state sync]
      exact ⟨wait, tail⟩
  case accumulate =>
    have room : s.rxCount.toNat ≠ len := fun all => by simp [full.mpr all] at state
    obtain idx | idx : s.rxBitIdx.toNat < 7 ∨ s.rxBitIdx.toNat = 7 := by omega
    · obtain ⟨still, -, count, bytes, -⟩ := deliverPulse_bit (w := w) state idx
      rw [still, count, bytes]
      exact ⟨nofun, tail⟩
    · obtain ⟨-, -, count, next, others, -⟩ := deliverPulse_last_bit (w := w) state idx (by omega)
      refine ⟨fun waiting => ?_, fun i beyond => ?_⟩
      · rw [next] at waiting
        split_ifs at waiting
      · rw [count] at beyond
        exact (others i (by omega)).trans (tail i (Nat.le_of_succ_le beyond))
  case done =>
    have recorded : Machine.deliverPulse w s = recordPulse w s := by simp [Machine.deliverPulse, state]
    rw [recorded]
    exact ⟨wait, tail⟩

/-- A pulse that a window can hold keeps the received data in order. -/
theorem Receiver.DataOk.deliverPulse {len w : Nat} (h : s.receiver.DataOk) (counts : CountsBytes len s) (pos : 1 ≤ w)
    (small : w ≤ 54999) : (deliverPulse w s).receiver.DataOk := by
  obtain ⟨length, width, class_⟩ := deliverPulse_recorded s (w := w) (by omega)
  obtain ⟨wait, tail⟩ := h.wait_tail_deliverPulse counts w
  obtain ⟨lengthAfter, few, fits, -⟩ := counts.deliverPulse w
  refine ⟨⟨fits.trans_eq lengthAfter.symm, lengthAfter.trans_le few⟩, wait, tail, .inr ?_⟩
  show 1 ≤ (Machine.deliverPulse w s).lastWidth.toNat ∧ (Machine.deliverPulse w s).lastWidth.toNat ≤ 54999 ∧
    (Machine.deliverPulse w s).lastClass = classify (Machine.deliverPulse w s).lastWidth.toNat
  rw [class_, width]
  exact ⟨pos, small, rfl⟩

/-- An RX tick keeps the received data in order, whatever it measures (R168). -/
theorem Receiver.DataOk.rxMeasure {len : Nat} (data : s.receiver.DataOk) (measure : s.receiver.MeasureOk)
    (counts : CountsBytes len s) : (rxMeasure L s).receiver.DataOk := by
  by_cases completed : s.rxSub = .inPulse ∧ L = .released
  · obtain ⟨inPulse, rfl⟩ := completed
    obtain ⟨pos, inside⟩ : 1 ≤ s.rxWidth ∧ s.rxWidth ≤ s.rxW := measure.pulse inPulse
    have window : s.rxW < 55000 := measure.bounds.2.1
    rw [rxMeasure_of_completed inPulse]
    refine DataOk.deliverPulse (s := { s with rxSub := .waitEdge, rxE := s.rxE + 1, rxW := 0 }) { data with }
      { counts with } pos (by omega)
  obtain inside | timeout := lt_or_ge (s.rxW + 1) 55000
  · rw [rxMeasure_in_window completed inside]
    exact { data with }
  · rw [rxMeasure_at_timeout completed timeout]
    exact { data with }

end

end Sys2Proof.Machine
end

section
/-! Every tick keeps the invariant (10_state.md R16). -/

namespace Sys2Proof.Machine

section
variable {P : Config.Params} {L : Level} {op : Op} {p : Phase} {ps : List Phase} {s : State}

/-- A running RECEIVE counts the bytes that its LEN asks for (R160, R166). -/
theorem countsBytes_of_phaseOk (ok : PhaseOk P .rx s) (data : s.receiver.DataOk) : CountsBytes s.rxLen.toNat s := by
  obtain ⟨⟨-, -, doneAtOnce, missing⟩, -⟩ := ok
  obtain ⟨fits, few⟩ : s.rxCount.toNat ≤ s.rxLen.toNat ∧ s.rxLen.toNat ≤ 16 := data.count
  refine ⟨rfl, few, fits, fun done => ?_, fun all => ?_⟩
  · have none : s.rxLen.toNat = 0 := congrArg BitVec.toNat (doneAtOnce done).2
    omega
  · by_contra notDone
    exact (missing notDone).ne all

/-- An RX step (R167, R168). -/
theorem rxStep_ok (run : Running op .rx ps s) (ok : PhaseOk P .rx s) (bounds : TxBounds P s)
    (measure : s.receiver.MeasureOk) (data : s.receiver.DataOk) :
    Activity P { rxStep L s with drive := .released } ∧ TxBounds P (rxStep L s) ∧
      (rxStep L s).receiver.MeasureOk ∧ (rxStep L s).receiver.DataOk := by
  have early : s.rxE < 60000 := ok.1.1
  have length : s.rxLen = s.lenL.setWidth 5 := ok.1.2.1
  have counts := countsBytes_of_phaseOk ok data
  obtain ⟨counted, -, fits, done_iff⟩ := counts.rxMeasure L
  have measure' := measure.rxMeasure (L := L) early
  have data' := data.rxMeasure (L := L) measure counts
  have unmoved : TxBounds P (rxMeasure L s) ∧ Running op .rx ps (rxMeasure L s) ∧
      (rxMeasure L s).rxLen = (rxMeasure L s).lenL.setWidth 5 := by
    rw [rxMeasure_eq]
    exact ⟨bounds, { run with }, length⟩
  obtain ⟨bounds', running, length'⟩ := unmoved
  rw [rxStep]
  obtain ⟨-, step⟩ | ⟨-, -, step⟩ | ⟨missing, inTime, step⟩ := rxEnd_cases (rxMeasure L s) <;> rw [step]
  · exact ⟨.inl (inactive_finish _), bounds', measure', data'⟩
  · exact ⟨.inl (inactive_finish _), bounds', measure', data'⟩
  · refine ⟨.inr ⟨op, .rx, ps, { running with }, ⟨inTime, length', ?_, ?_⟩, rfl⟩, bounds', measure', data'⟩
    · exact fun done => absurd done missing
    · intro _
      exact counted ▸ lt_of_le_of_ne fits fun all => missing (done_iff.mpr all)

/-- The monitor touches nothing that the running phase counts. -/
theorem PhaseOk.monitorLine (h : PhaseOk P p s) : PhaseOk P p (monitorLine L s) := by
  cases L <;> cases p <;> exact h

theorem Running.monitorLine (h : Running op p ps s) : Running op p ps (monitorLine L s) := by
  cases L <;> exact { h with }

theorem TxBounds.monitorLine (h : TxBounds P s) : TxBounds P (monitorLine L s) := by
  cases L <;> exact h

theorem txLevel_monitorLine (L : Level) (s : State) : txLevel (monitorLine L s) = txLevel s := by cases L <;> rfl

/-- A phase's step, with the level that its tick drives (R16). -/
theorem phaseStep_ok (run : Running op p ps s) (ok : PhaseOk P p s) (bounds : TxBounds P s)
    (measure : s.receiver.MeasureOk) (data : s.receiver.DataOk) :
    Activity P { phaseStep P L s with drive := if p = .tx then txLevel s else .released } ∧
      TxBounds P (phaseStep P L s) ∧
      (phaseStep P L s).receiver.MeasureOk ∧ (phaseStep P L s).receiver.DataOk := by
  have phase := run.phase
  cases p
  case none => exact ok.elim
  case idle =>
    obtain ⟨active, bounds'⟩ := idleStep_ok run ok bounds
    rw [phaseStep, phase, idleStep_receiver]
    exact ⟨active, bounds', measure, data⟩
  case tx =>
    obtain ⟨active, bounds'⟩ := txStep_ok (L := L) run ok bounds
    rw [phaseStep, phase, txStep_receiver]
    exact ⟨active, bounds', measure, data⟩
  case pad =>
    obtain ⟨active, bounds'⟩ := padStep_ok (L := L) run ok bounds
    rw [phaseStep, phase, padStep_receiver]
    exact ⟨active, bounds', measure, data⟩
  case rx =>
    rw [phaseStep, phase]
    exact rxStep_ok run ok bounds measure data

/-- The idle count is 0 after an asserted sample (R100). -/
theorem idleCnt_tick_of_line (h : (tick P L s).line = true) : (tick P L s).idleCnt = 0#32 := by
  rw [tick_line, decide_eq_true_iff] at h
  rw [h]
  exact tick_asserted_idleCnt P s

/-- A tick keeps the invariant (R16). -/
theorem State.Inv.tick (h : s.Inv P) : (tick P L s).Inv P := by
  obtain ⟨⟨presc, -, measure, data, bounds⟩, activity⟩ := (inv_iff P s).mp h
  have presc' : (Machine.tick P L s).presc < tickDiv P := by rwa [tick_presc]
  suffices step : Activity P (Machine.tick P L s) ∧ TxBounds P (Machine.tick P L s) ∧
      (Machine.tick P L s).receiver.MeasureOk ∧ (Machine.tick P L s).receiver.DataOk by
    obtain ⟨activity', bounds', measure', data'⟩ := step
    exact (inv_iff P _).mpr ⟨⟨presc', idleCnt_tick_of_line, measure', data', bounds'⟩, activity'⟩
  obtain idle | ⟨op, p, ps, run, ok⟩ := activity
  · rw [tick_receiver P L s (.inl idle.busy), tick_of_not_busy P L s idle.busy]
    have bounds' := bounds.monitorLine (L := L)
    refine ⟨.inl ?_, bounds', measure, data⟩
    cases L <;> exact { idle with drive := rfl }
  · have same := monitorLine_receiver L s
    rw [tick_of_busy P L s run.busy, run.phase, ← txLevel_monitorLine L s]
    exact phaseStep_ok run.monitorLine ok.monitorLine bounds.monitorLine (same ▸ measure) (same ▸ data)

end

end Sys2Proof.Machine
end

section
/-! The rest of an edge keeps the invariant: the prescaler and the synchroniser, the register writes, and reset
(20_memory.md R46, 40_command_interface.md R80–R89). -/

namespace Sys2Proof.Machine

section
variable {P : Config.Params} {s : State}

theorem Sound.startPhase (h : Sound P s) (p : Phase) : Sound P (startPhase p s) := by
  obtain ⟨presc, line, measure, data, bounds⟩ := h
  exact ⟨by simpa using presc, by simpa using line, by simpa using measure, by simpa using data, bounds.startPhase p⟩

/-- Acceptance of RECEIVE empties the receiver (R82, R160). -/
theorem Sound.clearReceiver (h : Sound P s) {len : BitVec 6} (legal : len.toNat ≤ 16) :
    Sound P (clearReceiver len s) := by
  have few : (len.setWidth 5).toNat ≤ 16 := (toNat_setWidth_of_le legal).trans_le legal
  have measureOk : (Machine.clearReceiver len s).receiver.MeasureOk :=
    ⟨nofun, Nat.zero_le _, Nat.succ_pos _, Nat.zero_le _⟩
  have dataOk : (Machine.clearReceiver len s).receiver.DataOk :=
    ⟨⟨Nat.zero_le _, few⟩, fun _ => ⟨rfl, rfl, rfl⟩, fun _ _ => Vector.getElem_replicate _, .inl ⟨rfl, rfl⟩⟩
  exact { h with measureOk, dataOk }

/-- Acceptance starts the first phase of the command's list (R82, R83). -/
theorem accept_eq_startPhase {op : Op} {p : Phase} {ps : List Phase} (phases : phaseList op = p :: ps) (arg : BitVec 8)
    (len : BitVec 6) (s : State) : accept op arg len s = startPhase p
      (if op = .receive then clearReceiver len (latchCommand op arg len s) else latchCommand op arg len s) := by
  rw [accept]
  split_ifs <;> simp [nextPhase, clearReceiver, latchCommand, phases]

theorem running_accept {op : Op} {p : Phase} {ps : List Phase} (phases : phaseList op = p :: ps) (arg : BitVec 8)
    {len : BitVec 6} (legal : legalLen op len = true) (s : State) : Running op p ps (accept op arg len s) := by
  rw [accept_eq_startPhase phases]
  split_ifs <;> cases p <;> exact ⟨rfl, rfl, rfl, phases, phases ▸ List.suffix_rfl, legal, rfl, rfl, rfl⟩

theorem sound_accept (h : Sound P s) {op : Op} {p : Phase} {ps : List Phase} (phases : phaseList op = p :: ps)
    (arg : BitVec 8) {len : BitVec 6} (legal : legalLen op len = true) : Sound P (accept op arg len s) := by
  have latched : Sound P (latchCommand op arg len s) := { h with }
  rw [accept_eq_startPhase phases]
  split_ifs with receive
  · subst receive
    exact (latched.clearReceiver ((legalLen_receive len).mp legal)).startPhase p
  · exact latched.startPhase p

/-- The first phase begins with its counters at 0 and the line released (R86). -/
theorem phaseOk_accept (released : s.drive = .released) {op : Op} {p : Phase} {ps : List Phase}
    (phases : phaseList op = p :: ps) (arg : BitVec 8) {len : BitVec 6} (legal : legalLen op len = true) :
    PhaseOk P p (accept op arg len s) := by
  have suffix : p :: ps <:+ phaseList op := phases ▸ List.suffix_rfl
  rw [accept_eq_startPhase phases]
  obtain ⟨rfl, idle, -⟩ | ⟨rfl, sends, -⟩ | ⟨rfl, rfl, -⟩ | ⟨rfl, rfl, -⟩ := phase_cases suffix
  · obtain rfl | rfl := idle <;> exact ⟨.inl rfl, released⟩
  · have other : op ≠ .receive := by rintro rfl; simp [HasTxPhase, OnlySends] at sends
    rw [if_neg other]
    exact ⟨⟨rfl, waveLength_waveSegs_pos sends arg len s.txbuf, rfl, rfl⟩, released⟩
  · cases phases
  · have small := (legalLen_receive len).mp legal
    obtain ⟨length, -, fits, done_iff⟩ := (inReceive_of_receive arg s small).counts
    rw [if_pos rfl]
    refine ⟨⟨Nat.succ_pos _, rfl, fun done => ⟨rfl, ?_⟩, fun missing => ?_⟩, released⟩
    · exact BitVec.eq_of_toNat_eq (length.trans (done_iff.mp done).symm)
    · exact length.symm ▸ lt_of_le_of_ne fits fun all => missing (done_iff.mpr all)

/-- Acceptance while no command runs (R80, R82). -/
theorem State.Inv.accept (h : s.Inv P) (idle : s.busy = false) {op : Op} (hop : op ≠ .nop) (arg : BitVec 8)
    {len : BitVec 6} (legal : legalLen op len = true) : (accept op arg len s).Inv P := by
  obtain ⟨sound, inactive | ⟨_, _, _, run, -⟩⟩ := (inv_iff P s).mp h
  · obtain ⟨p, ps, phases⟩ : ∃ p ps, phaseList op = p :: ps := by cases op <;> simp [phaseList] at hop ⊢
    exact (inv_iff P _).mpr ⟨sound_accept sound phases arg legal,
      .inr ⟨op, p, ps, running_accept phases arg legal s, phaseOk_accept inactive.drive phases arg legal⟩⟩
  · simp [run.busy] at idle

theorem State.Inv.raiseError (h : s.Inv P) (c : ErrorCond) : (raiseError c s).Inv P := by cases c <;> exact { h with }

/-- A CMD write of a command (R80). -/
theorem State.Inv.submit (h : s.Inv P) {op : Op} (hop : op ≠ .nop) (arg : BitVec 8) (len : BitVec 6) :
    (submit op arg len s).Inv P := by
  obtain ⟨-, w⟩ | ⟨-, -, w⟩ | ⟨idle, legal, w⟩ := submit_cases op arg len s <;> rw [w]
  · exact h.raiseError _
  · exact h.raiseError _
  · exact h.accept idle hop arg legal

/-- Only a frame's waveform depends on TXBUF (R120). -/
theorem waveSegs_congr_txbuf {op : Op} (noFrame : ¬ (op = .txFrame ∨ op = .send)) (arg : Byte) (len : BitVec 6)
    (a b : Vector Byte 32) : waveSegs op arg len a = waveSegs op arg len b := by
  cases op
  case txFrame => exact absurd (.inl rfl) noFrame
  case send => exact absurd (.inr rfl) noFrame
  all_goals rfl

/-- A TXBUF write that takes effect meets no frame (R89). -/
theorem State.Inv.writeTxbuf (h : s.Inv P) (i : Fin 32) (v : Word) : (writeTxbuf i v s).Inv P := by
  obtain ⟨-, w⟩ | ⟨unlocked, w⟩ := writeTxbuf_cases i v s <;> rw [w]
  · exact h.raiseError _
  · have same (busy : s.busy = true) (bytes : Vector Byte 32) :
        waveSegs s.curOp s.argL s.lenL s.txbuf = waveSegs s.curOp s.argL s.lenL bytes :=
      waveSegs_congr_txbuf (by simpa [txbufLocked, busy] using unlocked) s.argL s.lenL _ _
    have busy {p : Phase} (phase : s.phase = p) (some : p ≠ .none) : s.busy = true := by
      by_contra idle
      exact some (phase.symm.trans (h.idle_fields (Bool.eq_false_iff.mpr idle)).2.1)
    exact { h with
      tx_wave := fun tx => same (busy tx nofun) _ ▸ h.tx_wave tx
      pad_e := fun pad => same (busy pad nofun) _ ▸ h.pad_e pad }

/-- A register write, whatever its offset and value (R43). -/
theorem State.Inv.regWrite (h : s.Inv P) {r : Reg} {v : Word} {t : State} (written : regWrite r v s = .next t) :
    t.Inv P := by
  obtain rfl | ⟨-, rfl⟩ | ⟨i, -, rfl⟩ | ⟨-, i, -, hop, rfl⟩ | ⟨-, -, -, rfl⟩ := regWrite_cases written
  · exact h
  · exact { h with }
  · exact h.writeTxbuf i v
  · exact h.submit hop i.arg i.len
  · obtain ⟨-, w⟩ | ⟨-, w⟩ := submitReserved_cases s <;> rw [w] <;> exact h.raiseError _

/-- The block's own part of an edge (R12, R13, R16). -/
theorem State.Inv.clockEdge (h : s.Inv P) (pins : Config.Pins) : (clockEdge P pins (passEdge s)).Inv P := by
  have passed : (passEdge s).Inv P := { h with }
  have presc_lt : ((passEdge s).presc + 1) % tickDiv P < tickDiv P :=
    Nat.mod_lt _ (Nat.zero_lt_of_lt (two_le_tickDiv P))
  rw [Machine.clockEdge]
  split_ifs
  · exact { passed.tick with presc_lt }
  · exact { passed with presc_lt }

end

/-- Settles O14: reset by O13, and an edge without reset by its own part and the write that follows it. -/
theorem everyStepKeepsTheInvariant : Obligations.EveryStepKeepsTheInvariant := by
  intro s t h stepped
  obtain ⟨-, rfl⟩ | ⟨-, -, rfl⟩ | ⟨-, -, -, written⟩ := edgeStep_cases stepped
  · exact { resetStateSatisfiesTheInvariant with }
  · exact h.clockEdge _
  · exact (h.clockEdge _).regWrite written

end Sys2Proof.Machine
end
